-- ==== Sys2Proof/Word.lean ====
section
/-! DEFINITION. The two word types of the block: 32-bit registers (R10) and bytes (R17). Every value is an unsigned
bit vector (R16, R405). -/

namespace Sys2Proof

/-- A host-visible register, or the value of one host access (R10 REG_WIDTH, R201). -/
abbrev Word := BitVec 32

/-- A byte of a frame, of the wire and of the CRC (R17). -/
abbrev Byte := BitVec 8

end Sys2Proof
end

