-- ==== Sys2Proof/Syntax.lean ====
section
/-! DEFINITION. The six commands of the opcode map (R2, R310), one constructor per row of spec/opcode_table.json.
The one explicit operand is IMM8 of CRCBYTE; all other operands are fixed registers (R302). Fields that a command
ignores (R331) are no part of it. A reserved opcode (R330) is no command: see `Decoded.reserved`. -/

namespace Sys2Proof

/-- A command of the block. -/
inductive Instr where
  /-- ENCODE, OPC 0x01 (R420). -/
  | encode
  /-- DECODE, OPC 0x02 (R421). -/
  | decode
  /-- CRCINIT, OPC 0x03 (R422). -/
  | crcinit
  /-- CRCBYTE, OPC 0x04, with IMM8, the byte fed to the CRC (R423). -/
  | crcbyte (imm : Byte)
  /-- SEND, OPC 0x05 (R456). -/
  | send
  /-- XCHG, OPC 0x06 (R457). -/
  | xchg
  deriving DecidableEq, Repr

end Sys2Proof
end

