-- ==== Sys2Proof/Machine/Types.lean ====
section
/-! DEFINITION. The plain data the state is made of: frames, phases, error sources, the register names of R103, the
host-program notation of R340, and the inputs that arrive from the agents outside the block (R12, R15, R700). -/

namespace Sys2Proof.Machine

/-- A 5-byte frame, byte 0 first (R17, R320). -/
structure Frame where
  f0 : Byte
  f1 : Byte
  f2 : Byte
  f3 : Byte
  f4 : Byte
  deriving DecidableEq, Repr

/-- Five zero bytes: TXBUF and RXBUF at reset (R109, R110). -/
def Frame.zero : Frame := ⟨0, 0, 0, 0, 0⟩

/-- The bytes of a frame in wire order (R205). -/
def Frame.bytes (f : Frame) : List Byte := [f.f0, f.f1, f.f2, f.f3, f.f4]

/-- `frame[0..4]`: the four bytes the checksum covers (R9, R17). -/
def Frame.head (f : Frame) : List Byte := [f.f0, f.f1, f.f2, f.f3]

/-- The frame read as one 40-bit big-endian number (R321). -/
def Frame.toWord (f : Frame) : BitVec 40 := f.f0 ++ f.f1 ++ f.f2 ++ f.f3 ++ f.f4

/-- Byte i of a frame. -/
def Frame.get (f : Frame) (i : Fin 5) : Byte :=
  match i with
  | 0 => f.f0
  | 1 => f.f1
  | 2 => f.f2
  | 3 => f.f3
  | 4 => f.f4

/-- The frame with byte i replaced. -/
def Frame.set (f : Frame) (i : Fin 5) (b : Byte) : Frame :=
  match i with
  | 0 => { f with f0 := b }
  | 1 => { f with f1 := b }
  | 2 => { f with f2 := b }
  | 3 => { f with f3 := b }
  | 4 => { f with f4 := b }

/-- The sequencer phase (R105). -/
inductive Phase where
  | idle
  | tx
  | wait
  | rx
  deriving DecidableEq, Repr

/-- The two commands that run a transaction: the values of CUROP (R130, R455). -/
inductive TransOp where
  | send
  | xchg
  deriving DecidableEq, Repr

/-- IOERR_INFO.SRC (R115). -/
inductive IoSrc where
  | none
  | write
  | read
  | short
  deriving DecidableEq, Repr

/-- The channel's answer to `ChanWrite` (R452). -/
inductive WriteAnswer where
  /-- All five bytes were accepted, in order. -/
  | ok
  /-- The write failed. `code` is the channel's own; `reached` is how many bytes, a prefix, got onto the wire: any
  number from none to all (R452, I2). -/
  | err (code : BitVec 16) (reached : Fin 6)
  deriving DecidableEq, Repr

/-- The channel's answer to `ChanRead(5)` (R453). -/
inductive ReadAnswer where
  /-- The channel filled the first `k` bytes of the 5-byte reply buffer, 0 ≤ k ≤ 5, in the order they arrived. The
  bytes of `buf` from `k` on are no bytes of the channel, and no rule reads them (log entry 4). -/
  | ok (k : Fin 6) (buf : Frame)
  /-- The read failed. -/
  | err (code : BitVec 16)
  deriving DecidableEq, Repr

/-- A request of the block to the channel (R15, R458, R462). -/
inductive ChanReq where
  /-- `ChanWrite` of the five bytes of a frame, byte 0 first. -/
  | write (f : Frame)
  /-- `ChanRead(5)`. -/
  | read
  deriving DecidableEq, Repr

/-- A host access at byte offset `off` of the window, `n` bytes wide (R18, R201). A write of a width other than 4 is
refused before its value matters, so the value is a word. -/
inductive HostAccess where
  | read (off n : Nat)
  | write (off n : Nat) (v : Word)
  deriving DecidableEq, Repr

/-- What a host read returned. -/
structure Observed where
  off : Nat
  value : Word
  deriving DecidableEq, Repr

/-- The registers of R103 by name. -/
inductive Reg where
  | cmd
  | status
  | pktAddr
  | pktPos
  | pktFlags
  | txbuf (i : Fin 5)
  | rxbuf (i : Fin 5)
  | dAddr
  | dPos
  | dFlags
  | crcAcc
  | ioerrInfo
  | replyDelay
  deriving DecidableEq, Repr

/-- The access codes of R103. RAZ/WI belongs to reserved offsets, which have no register name. -/
inductive Access where
  | rw
  | ro
  | wo
  deriving DecidableEq, Repr

/-- REG.FIELD: bits `lo + width - 1` down to `lo` of a register (R18). -/
structure Field where
  reg : Reg
  lo : Nat
  width : Nat
  deriving DecidableEq, Repr

/-- A label of a host program, by number (R340). -/
abbrev Label := Nat

/-- A statement of a host program (R340). -/
inductive Stmt where
  /-- `WR REG, v` -/
  | wr (r : Reg) (v : Word)
  /-- `RD REG` -/
  | rd (r : Reg)
  /-- A command statement: `ENCODE`, `DECODE`, `CRCINIT`, `CRCBYTE b`, `SEND`, `XCHG`. -/
  | cmd (i : Instr)
  /-- `POLL` -/
  | poll
  /-- `label:` -/
  | label (l : Label)
  /-- `JEQ REG.FIELD, v, label` -/
  | jeq (f : Field) (v : Word) (l : Label)
  /-- `JNE REG.FIELD, v, label` -/
  | jne (f : Field) (v : Word) (l : Label)
  /-- `JMP label` -/
  | jmp (l : Label)
  /-- `HALT` -/
  | halt
  deriving DecidableEq, Repr

/-- One step of an agent, as it reaches the block (R12, R13; log entries 1 and 3). -/
inductive Input where
  /-- The host makes one access (R201). -/
  | host (a : HostAccess)
  /-- The host takes the next statement of its program (R340). -/
  | hostStmt
  /-- The channel answers the outstanding `ChanWrite`: the TX step (R458). -/
  | writeAnswered (a : WriteAnswer)
  /-- The WAIT-end step, `us` whole microseconds of real time after entry to WAIT (R462). -/
  | waitElapsed (us : Nat)
  /-- The channel answers the outstanding `ChanRead(5)`: the RX step (R463). -/
  | readAnswered (a : ReadAnswer)
  /-- Reset (R700). Where it interrupts a write, `reached` is how many bytes, a prefix, got onto the wire (R701, I3). -/
  | reset (reached : Fin 6)
  deriving DecidableEq, Repr

/-- PHASE as the two bits of STATUS (R105). -/
def Phase.code : Phase → BitVec 2
  | .idle => 0
  | .tx => 1
  | .wait => 2
  | .rx => 3

/-- SRC as the two bits of IOERR_INFO (R115). -/
def IoSrc.code : IoSrc → BitVec 2
  | .none => 0
  | .write => 1
  | .read => 2
  | .short => 3

/-- The command that CUROP names. -/
def TransOp.instr : TransOp → Instr
  | .send => .send
  | .xchg => .xchg

end Sys2Proof.Machine
end

