-- ==== Sys2Proof/Machine/Fields.lean ====
section
/-! DEFINITION. The named fields of the register tables of R104 to R116, which JEQ and JNE may name (R340). -/

namespace Sys2Proof.Machine

def fieldBusy : Field := ⟨.status, 0, 1⟩
def fieldDone : Field := ⟨.status, 1, 1⟩
def fieldIoerr : Field := ⟨.status, 2, 1⟩
def fieldCmderr : Field := ⟨.status, 3, 1⟩
def fieldPhase : Field := ⟨.status, 4, 2⟩
def fieldLastop : Field := ⟨.status, 8, 8⟩
def fieldValid : Field := ⟨.dFlags, 2, 1⟩

/-- Every field that R104 to R116 name. -/
def namedFields : List Field :=
  [⟨.cmd, 0, 8⟩, ⟨.cmd, 8, 8⟩] ++
  [fieldBusy, fieldDone, fieldIoerr, fieldCmderr, fieldPhase, fieldLastop] ++
  [⟨.pktAddr, 0, 16⟩, ⟨.pktPos, 0, 16⟩, ⟨.pktFlags, 0, 1⟩, ⟨.pktFlags, 1, 1⟩] ++
  [⟨.dAddr, 0, 10⟩, ⟨.dPos, 0, 12⟩] ++
  [⟨.dFlags, 0, 1⟩, ⟨.dFlags, 1, 1⟩, fieldValid, ⟨.dFlags, 3, 1⟩, ⟨.dFlags, 4, 1⟩, ⟨.dFlags, 5, 1⟩] ++
  [⟨.crcAcc, 0, 8⟩, ⟨.ioerrInfo, 0, 2⟩, ⟨.ioerrInfo, 4, 3⟩, ⟨.ioerrInfo, 16, 16⟩, ⟨.replyDelay, 0, 32⟩]

end Sys2Proof.Machine
end

