-- ==== Sys2Proof/Decode.lean ====
section
/-! DEFINITION. The command word CMD32 (R300, R301, R310): decoder and encoder. A command is one 32-bit value written to
CMD, so it has no byte order (R206, log entry 12). The decoder is total: an opcode outside the map is
`Decoded.reserved`, which the spec gives a defined effect (R330). -/

namespace Sys2Proof

/-- What a command word stands for. -/
inductive Decoded where
  /-- One of the six commands of R310. -/
  | instr (i : Instr)
  /-- One of the 250 reserved opcodes of R330, by its OPC. -/
  | reserved (opc : Byte)
  deriving DecidableEq, Repr

/-- OPC, bits 7:0 of a command word (R301). -/
def opcField (v : Word) : Byte := v.extractLsb' 0 8

/-- IMM8, bits 15:8 of a command word (R301). -/
def immField (v : Word) : Byte := v.extractLsb' 8 8

/-- Decode a command word by the match and mask of R310: OPC selects the command, IMM8 is read by CRCBYTE alone, and
bits 31:16 are ignored (R331). -/
def decodeWord (v : Word) : Decoded :=
  if opcField v = 0x01 then .instr .encode
  else if opcField v = 0x02 then .instr .decode
  else if opcField v = 0x03 then .instr .crcinit
  else if opcField v = 0x04 then .instr (.crcbyte (immField v))
  else if opcField v = 0x05 then .instr .send
  else if opcField v = 0x06 then .instr .xchg
  else .reserved (opcField v)

/-- The opcode of a command (R310). -/
def opcode : Instr → Byte
  | .encode => 0x01
  | .decode => 0x02
  | .crcinit => 0x03
  | .crcbyte _ => 0x04
  | .send => 0x05
  | .xchg => 0x06

/-- The IMM8 field of a command's canonical word: the operand of CRCBYTE, else 0 (R340). -/
def immOf : Instr → Byte
  | .crcbyte imm => imm
  | .encode | .decode | .crcinit | .send | .xchg => 0x00

/-- The canonical word of a command: RSVD = 0, and IMM8 = 0 where the command ignores it (R301, R340). -/
def encodeWord (i : Instr) : Word := 0#16 ++ immOf i ++ opcode i

/-- The bits of a command word that the command depends on: OPC for every command, IMM8 too for CRCBYTE (R310, R331). -/
def fieldMask : Instr → Word
  | .crcbyte _ => 0x0000FFFF
  | .encode | .decode | .crcinit | .send | .xchg => 0x000000FF

/-- The 32-bit word whose low `nbits` bits are those of `w`, all others 0. -/
def tableWord (nbits w : Nat) : Word := BitVec.ofNat 32 (w % 2 ^ nbits)

/-- The command this decoder reads from a word given as spec/opcode_table.json numbers its bits (log entry 12). -/
def decodeTableWord (nbits w : Nat) : Option Instr :=
  match decodeWord (tableWord nbits w) with
  | .instr i => some i
  | .reserved _ => none

end Sys2Proof
end

