-- ==== Sys2Proof/Config.lean ====
section
/-! DEFINITION. The parameters the spec fixes (R9, R10). The two parameters it leaves open (R11), `ChannelOracle` and
`TimeBase`, are no constants: their values arrive as data in the inputs that `State.inputs` holds (log entries 4
and 6), so a statement about every state holds for every oracle and every time base. -/

namespace Sys2Proof

/-- SYNC, the fixed byte 0 of a frame (R9, R320). -/
def Config.sync : Byte := 0xD4

/-- The CRC polynomial of CRC-8/SMBUS, used as the feedback mask (R9, R402). -/
def Config.crcPoly : Byte := 0x07

/-- The CRC's initial value (R9, R402), which CRCINIT writes (R422). -/
def Config.crcInit : Byte := 0x00

/-- The CRC's final XOR (R9, R402). -/
def Config.crcXorOut : Byte := 0x00

/-- READ_SIZE, the number of bytes XCHG reads, the length of a frame (R9, R463). -/
def Config.readSize : Nat := 5

/-- WINDOW, the size in bytes of the register window (R10, R103). -/
def Config.windowBytes : Nat := 0x80

/-- The width in bytes of every host access (R201). -/
def Config.accessBytes : Nat := 4

/-- The reset value of REPLY_DELAY: one second in microseconds (R10, R116). -/
def Config.replyDelayReset : Word := 1000000

end Sys2Proof
end

