-- ==== Sys2Proof/Machine/State.lean ====
section
/-! DEFINITION. The state: every register of R103, the hidden state of R130, and the model's own fields for the agents
outside the block (log entries 1, 9 and 10). -/

namespace Sys2Proof.Machine

/-- The model faults of R620, the entries of the FAULT record. -/
inductive Fault where
  /-- F_ACCESS(off, n) (R621): recorded by a host access of a width other than 4, at an offset that is no multiple of 4
  or outside the window. Safe: the spec gives such an access no meaning, and every claim about a host program assumes
  that the record is empty (R620). It is recorded in a next state and never ends a run. -/
  | fAccess (off n : Nat)
  /-- F_BUSY_WRITE(off, v) (R622): recorded by an admitted host write while STATUS.BUSY = 1. Safe, as above. -/
  | fBusyWrite (off : Nat) (v : Word)
  deriving DecidableEq, Repr

/-- Why a step would be refused. No step of this model is. -/
inductive Refusal where
  /-- A command with no meaning yet, by its mnemonic; raised by no arm. Safe. -/
  | notModelled (mnemonic : String)
  deriving DecidableEq, Repr

structure State where
  /-- STATUS.BUSY (R105). -/
  busy : Bool
  /-- STATUS.DONE (R105). -/
  done : Bool
  /-- STATUS.IOERR (R105). -/
  ioerr : Bool
  /-- STATUS.CMDERR (R105). -/
  cmderr : Bool
  /-- STATUS.PHASE (R105, R101). -/
  phase : Phase
  /-- STATUS.LASTOP (R105). -/
  lastop : Byte
  /-- PKT_ADDR.ADDRESS (R106). -/
  pktAddr : BitVec 16
  /-- PKT_POS.POSITION (R107). -/
  pktPos : BitVec 16
  /-- PKT_FLAGS.KIND: 1 = Command, 0 = Response (R108). -/
  pktKind : BitVec 1
  /-- PKT_FLAGS.STATUS: 1 = Moving, 0 = Idle (R108). -/
  pktStatus : BitVec 1
  /-- TXBUF0 to TXBUF4 (R109). -/
  txbuf : Frame
  /-- RXBUF0 to RXBUF4 (R110). -/
  rxbuf : Frame
  /-- D_ADDR.ADDRESS (R111). -/
  dAddr : BitVec 10
  /-- D_POS.POSITION (R112). -/
  dPos : BitVec 12
  /-- D_FLAGS.KIND (R113). -/
  dKind : BitVec 1
  /-- D_FLAGS.STATUS (R113). -/
  dStatus : BitVec 1
  /-- D_FLAGS.VALID (R113). -/
  dValid : Bool
  /-- D_FLAGS.SYNC_OK (R113). -/
  dSyncOk : Bool
  /-- D_FLAGS.CRC_OK (R113). -/
  dCrcOk : Bool
  /-- D_FLAGS.DECODED (R113). -/
  dDecoded : Bool
  /-- CRC_ACC.ACC (R114). -/
  crcAcc : Byte
  /-- IOERR_INFO.SRC (R115). -/
  ioSrc : IoSrc
  /-- IOERR_INFO.COUNT (R115). -/
  ioCount : BitVec 3
  /-- IOERR_INFO.CODE (R115). -/
  ioCode : BitVec 16
  /-- REPLY_DELAY.DELAY, in microseconds (R116). -/
  replyDelay : Word
  /-- TIMER (R130): the microseconds WAIT must last, loaded on entry to WAIT (R461). -/
  timer : Word
  /-- CUROP (R130). -/
  curop : Option TransOp
  /-- FAULT, the sticky record of model faults, oldest first (R130, R620). -/
  faults : List Fault
  /-- The model's own: the steps the agents take next, oldest first (R13, R210; log entry 1). -/
  inputs : List Input
  /-- The model's own: the host program (R340; log entry 9). -/
  prog : List Stmt
  /-- The model's own: the host's place in its program, an index into `prog` (log entry 9). -/
  hpc : Nat
  /-- The model's own: what the host's reads returned, oldest first (R202, R340; log entry 10). -/
  obs : List Observed
  /-- The model's own: the requests made of the channel, oldest first (R214; log entry 10). -/
  chanReqs : List ChanReq
  /-- The model's own: the bytes placed on the wire, oldest first (R200, R205, R452; log entry 10). -/
  wire : List Byte
  deriving DecidableEq, Repr

/-- The launch state (R700), with no input arrived and no host program. -/
def State.reset : State where
  busy := false
  done := false
  ioerr := false
  cmderr := false
  phase := .idle
  lastop := 0
  pktAddr := 0
  pktPos := 0
  pktKind := 0
  pktStatus := 0
  txbuf := Frame.zero
  rxbuf := Frame.zero
  dAddr := 0
  dPos := 0
  dKind := 0
  dStatus := 0
  dValid := false
  dSyncOk := false
  dCrcOk := false
  dDecoded := false
  crcAcc := 0
  ioSrc := .none
  ioCount := 0
  ioCode := 0
  replyDelay := Config.replyDelayReset
  timer := 0
  curop := none
  faults := []
  inputs := []
  prog := []
  hpc := 0
  obs := []
  chanReqs := []
  wire := []

end Sys2Proof.Machine
end

