-- ==== Sys2Proof/Machine/Flags.lean ====
section
/-! DEFINITION. The flags: how the status registers read as words, and the operations that set and clear their bits
(R105, R108, R113, R115, R120). -/

namespace Sys2Proof.Machine

/-- A flag as one bit: true = 1 (R19). -/
def flagBit (b : Bool) : BitVec 1 := BitVec.ofBool b

/-- STATUS as it reads (R105). -/
def statusWord (s : State) : Word :=
  0#16 ++ s.lastop ++ 0#2 ++ s.phase.code ++ flagBit s.cmderr ++ flagBit s.ioerr ++ flagBit s.done ++ flagBit s.busy

/-- PKT_FLAGS as it reads (R108). -/
def pktFlagsWord (s : State) : Word := 0#30 ++ s.pktKind ++ s.pktStatus

/-- D_FLAGS as it reads (R113). -/
def dFlagsWord (s : State) : Word :=
  0#26 ++ flagBit s.dDecoded ++ flagBit s.dCrcOk ++ flagBit s.dSyncOk ++ flagBit s.dValid ++ s.dKind ++ s.dStatus

/-- IOERR_INFO as it reads (R115). -/
def ioerrInfoWord (s : State) : Word := s.ioCode ++ 0#9 ++ s.ioCount ++ 0#2 ++ s.ioSrc.code

/-- STATUS.DONE <- 1, the end of every command that completes in its issuing step (R120, R420 to R423). -/
def setDone (s : State) : State := { s with done := true }

/-- The common first part of every command (R315): the outcome of the command before it is cleared and LASTOP takes
the opcode. -/
def accept (opc : Byte) (s : State) : State :=
  { s with
    done := false, ioerr := false, cmderr := false
    ioSrc := .none, ioCount := 0, ioCode := 0
    lastop := opc }

/-- RecordIoError (R610). -/
def recordIoError (src : IoSrc) (code : BitVec 16) (count : BitVec 3) (s : State) : State :=
  { s with ioerr := true, ioSrc := src, ioCode := code, ioCount := count }

/-- Complete (R459), the end of SEND and XCHG. -/
def complete (s : State) : State := { s with busy := false, phase := .idle, done := true }

/-- What a reserved opcode does after the common part (R330). -/
def setCmderr (s : State) : State := { s with cmderr := true, done := true }

end Sys2Proof.Machine
end

