-- ==== Sys2Proof/Machine/Operands.lean ====
section
/-! DEFINITION. The operand forms: the register window (R103, R106 to R117), what each register reads as and what a
write to it stores, and the fields REG.FIELD of R18. A command's own operands are fixed registers (R302). -/

namespace Sys2Proof.Machine

/-- The byte offset of a register (R103). -/
def Reg.offset : Reg → Nat
  | .cmd => 0x00
  | .status => 0x04
  | .pktAddr => 0x08
  | .pktPos => 0x0C
  | .pktFlags => 0x10
  | .txbuf i => 0x14 + 4 * i.val
  | .rxbuf i => 0x28 + 4 * i.val
  | .dAddr => 0x3C
  | .dPos => 0x40
  | .dFlags => 0x44
  | .crcAcc => 0x48
  | .ioerrInfo => 0x4C
  | .replyDelay => 0x50

/-- The access code of a register (R103). -/
def Reg.access : Reg → Access
  | .cmd => .wo
  | .status | .txbuf _ | .dAddr | .dPos | .dFlags | .ioerrInfo => .ro
  | .pktAddr | .pktPos | .pktFlags | .rxbuf _ | .crcAcc | .replyDelay => .rw

/-- The register at an offset (R103); none at a reserved offset (R117) and where no register starts. -/
def regAt (off : Nat) : Option Reg :=
  match off with
  | 0x00 => some .cmd
  | 0x04 => some .status
  | 0x08 => some .pktAddr
  | 0x0C => some .pktPos
  | 0x10 => some .pktFlags
  | 0x14 => some (.txbuf 0)
  | 0x18 => some (.txbuf 1)
  | 0x1C => some (.txbuf 2)
  | 0x20 => some (.txbuf 3)
  | 0x24 => some (.txbuf 4)
  | 0x28 => some (.rxbuf 0)
  | 0x2C => some (.rxbuf 1)
  | 0x30 => some (.rxbuf 2)
  | 0x34 => some (.rxbuf 3)
  | 0x38 => some (.rxbuf 4)
  | 0x3C => some .dAddr
  | 0x40 => some .dPos
  | 0x44 => some .dFlags
  | 0x48 => some .crcAcc
  | 0x4C => some .ioerrInfo
  | 0x50 => some .replyDelay
  | _ => none

/-- What a register reads as: its fields, with reserved bits 0; CMD reads 0 (R104 to R116, R202). -/
def readReg (r : Reg) (s : State) : Word :=
  match r with
  | .cmd => 0
  | .status => statusWord s
  | .pktAddr => s.pktAddr.setWidth 32
  | .pktPos => s.pktPos.setWidth 32
  | .pktFlags => pktFlagsWord s
  | .txbuf i => (s.txbuf.get i).setWidth 32
  | .rxbuf i => (s.rxbuf.get i).setWidth 32
  | .dAddr => s.dAddr.setWidth 32
  | .dPos => s.dPos.setWidth 32
  | .dFlags => dFlagsWord s
  | .crcAcc => s.crcAcc.setWidth 32
  | .ioerrInfo => ioerrInfoWord s
  | .replyDelay => s.replyDelay

/-- What a write to a register stores (R203): the defined fields of an RW register, from the same bits of the value.
RO registers ignore it. CMD stores nothing: a write to it issues a command (`hostWrite`). -/
def writeReg (r : Reg) (v : Word) (s : State) : State :=
  match r with
  | .pktAddr => { s with pktAddr := v.extractLsb' 0 16 }
  | .pktPos => { s with pktPos := v.extractLsb' 0 16 }
  | .pktFlags => { s with pktStatus := v.extractLsb' 0 1, pktKind := v.extractLsb' 1 1 }
  | .rxbuf i => { s with rxbuf := s.rxbuf.set i (v.extractLsb' 0 8) }
  | .crcAcc => { s with crcAcc := v.extractLsb' 0 8 }
  | .replyDelay => { s with replyDelay := v }
  | .cmd | .status | .txbuf _ | .dAddr | .dPos | .dFlags | .ioerrInfo => s

/-- The value of REG.FIELD in the word the register reads as, zero-extended (R16, R18). -/
def fieldValue (f : Field) (w : Word) : Word := ((w >>> f.lo).setWidth f.width).setWidth 32

end Sys2Proof.Machine
end

