-- ==== Sys2Proof/Machine/Ops.lean ====
section
/-! DEFINITION. The shared operations over the state: the model fault (R620), which is the nearest thing this block has
to taking an exception (R600, R641: there are no traps and no return), encoding into TXBUF, writing the decoded
packet, requests to the channel and bytes on the wire, what a host read leaves, and reset. -/

namespace Sys2Proof.Machine

/-- `raise F(info)` (R620): the entry joins the sticky FAULT record and nothing else happens. -/
def raiseFault (f : Fault) (s : State) : State := { s with faults := s.faults ++ [f] }

/-- TXBUF <- pack(PKT_*): what ENCODE, SEND and XCHG share (R420, R455). -/
def encodeTx (s : State) : State := { s with txbuf := pack s.pktAddr s.pktPos s.pktKind s.pktStatus }

/-- WriteDecoded (R421), shared by DECODE and a full reply (R464). -/
def writeDecoded (f : Frame) (s : State) : State :=
  let u := unpack f
  { s with
    dAddr := u.address
    dPos := u.position
    dKind := u.kind
    dStatus := u.status
    dSyncOk := u.syncOk
    dCrcOk := u.crcOk
    dValid := u.valid
    dDecoded := true }

/-- The block makes a request of the channel (R15, R214). -/
def request (r : ChanReq) (s : State) : State := { s with chanReqs := s.chanReqs ++ [r] }

/-- The first `k` bytes of TXBUF get onto the wire, byte 0 first (R205, R452). -/
def sendPrefix (k : Nat) (s : State) : State := { s with wire := s.wire ++ s.txbuf.bytes.take k }

/-- AcceptTransaction (R455): pack PKT into TXBUF, and enter TX, where the write request is made once (R458). -/
def acceptTransaction (op : TransOp) (s : State) : State :=
  let t := encodeTx s
  request (.write t.txbuf) { t with curop := some op, busy := true, phase := .tx }

/-- What a host read leaves: the value it returned, and nothing in the block (R202). -/
def observe (off : Nat) (v : Word) (s : State) : State := { s with obs := s.obs ++ [⟨off, v⟩] }

/-- The host goes on to the next statement of its program (R340). -/
def advance (s : State) : State := { s with hpc := s.hpc + 1 }

/-- Reset (R700): every register and hidden field takes its reset value. The agents outside the block keep theirs. -/
def resetBlock (s : State) : State :=
  { State.reset with
    inputs := s.inputs
    prog := s.prog
    hpc := s.hpc
    obs := s.obs
    chanReqs := s.chanReqs
    wire := s.wire }

/-- Carry on after an access that may not have answered a next state. -/
def andThen (o : Host.Outcome State Fault Refusal) (f : State → State) : Host.Outcome State Fault Refusal :=
  match o with
  | .next s => .next (f s)
  | .fault r => .fault r
  | .refused r => .refused r

end Sys2Proof.Machine
end

