-- ==== Sys2Proof/Machine/CodecCommands.lean ====
section
/-! DEFINITION. The meanings of the four codec commands (R420 to R423). Each is the whole host step that writes CMD:
the common part of R315, then the command's own part. -/

namespace Sys2Proof.Machine

/-- ENCODE (R420). -/
def execEncode (s : State) : Host.Outcome State Fault Refusal :=
  .next (setDone (encodeTx (accept (opcode .encode) s)))

/-- DECODE (R421). -/
def execDecode (s : State) : Host.Outcome State Fault Refusal :=
  .next (setDone (writeDecoded s.rxbuf (accept (opcode .decode) s)))

/-- CRCINIT (R422). -/
def execCrcinit (s : State) : Host.Outcome State Fault Refusal :=
  .next (setDone { accept (opcode .crcinit) s with crcAcc := Config.crcInit })

/-- CRCBYTE (R423). -/
def execCrcbyte (imm : Byte) (s : State) : Host.Outcome State Fault Refusal :=
  .next (setDone { accept (opcode (.crcbyte imm)) s with crcAcc := crc8Step s.crcAcc imm })

end Sys2Proof.Machine
end

