-- ==== Sys2Proof/Machine/Driver.lean ====
section
/-! DEFINITION. The transaction driver: the meanings of SEND and XCHG in the host step that issues them (R315, R455 to
R457), and the sequencer steps that carry them out (R458 to R466). A sequencer step that is not enabled changes
nothing (log entry 3). -/

namespace Sys2Proof.Machine

/-- SEND, the accepting host step (R315, R455, R456). -/
def execSend (s : State) : Host.Outcome State Fault Refusal :=
  .next (acceptTransaction .send (accept (opcode .send) s))

/-- XCHG, the accepting host step (R315, R455, R457). -/
def execXchg (s : State) : Host.Outcome State Fault Refusal :=
  .next (acceptTransaction .xchg (accept (opcode .xchg) s))

/-- TxStep's two cases (R458), with the bytes that got onto the wire (R452). -/
def txAnswer (a : WriteAnswer) (s : State) : State :=
  match a with
  | .ok =>
    let t := sendPrefix Config.readSize s
    if t.curop = some .send then complete t else { t with timer := t.replyDelay, phase := .wait }
  | .err code reached => complete (recordIoError .write code 0 (sendPrefix reached.val s))

/-- The TX step, enabled in TX (R458). -/
def txStep (a : WriteAnswer) (s : State) : State := if s.phase = .tx then txAnswer a s else s

/-- The WAIT-end step (R462), enabled in WAIT once at least TIMER microseconds have passed since entry to it. -/
def waitStep (us : Nat) (s : State) : State :=
  if s.phase = .wait ∧ s.timer.toNat ≤ us then request .read { s with phase := .rx } else s

/-- The RX step's three cases: full reply (R464), short reply (R466), read error (R465). -/
def rxAnswer (a : ReadAnswer) (s : State) : State :=
  match a with
  | .ok k buf =>
    if k.val = Config.readSize then complete (writeDecoded buf { s with rxbuf := buf })
    else complete (recordIoError .short 0 (BitVec.ofNat 3 k.val) s)
  | .err code => complete (recordIoError .read code 0 s)

/-- The RX step, enabled in RX (R463). -/
def rxStep (a : ReadAnswer) (s : State) : State := if s.phase = .rx then rxAnswer a s else s

/-- Reset (R700), and what an interrupted write leaves on the wire (R701): outside TX no write is outstanding. -/
def resetStep (reached : Fin 6) (s : State) : State :=
  resetBlock (if s.phase = .tx then sendPrefix reached.val s else s)

end Sys2Proof.Machine
end

