-- ==== Sys2Proof/Machine/Dispatch.lean ====
section
/-! DEFINITION. One arm per command (R310, R315). -/

namespace Sys2Proof.Machine

def exec (i : Instr) (s : State) : Host.Outcome State Fault Refusal :=
  match i with
  | .encode => Sys2Proof.Machine.execEncode s
  | .decode => Sys2Proof.Machine.execDecode s
  | .crcinit => Sys2Proof.Machine.execCrcinit s
  | .crcbyte imm => Sys2Proof.Machine.execCrcbyte imm s
  | .send => Sys2Proof.Machine.execSend s
  | .xchg => Sys2Proof.Machine.execXchg s

end Sys2Proof.Machine
end

