-- ==== Sys2Proof/Machine/HostPort.lean ====
section
/-! DEFINITION. The host port: command issue (R315), and the host accesses with their checks (R201 to R204, R630,
R720). -/

namespace Sys2Proof.Machine

/-- A reserved opcode (R330, R613): the common part, then CMDERR and DONE. -/
def reservedCommand (opc : Byte) (s : State) : State := setCmderr (accept opc s)

/-- IssueCommand (R315). The host port has established BUSY = 0 (R203). -/
def issueCommand (v : Word) (s : State) : Host.Outcome State Fault Refusal :=
  match decodeWord v with
  | .instr i => exec i s
  | .reserved opc => .next (reservedCommand opc s)

/-- The accesses the interface defines: 32 bits wide, aligned, inside the window (R201). -/
def admitted (off n : Nat) : Bool :=
  n == Config.accessBytes && off % Config.accessBytes == 0 && decide (off < Config.windowBytes)

/-- The value an admitted read returns (R202). A reserved offset returns 0. -/
def hostRead (off : Nat) (s : State) : Word :=
  match regAt off with
  | some r => readReg r s
  | none => 0

/-- An admitted write with BUSY = 0 (R203), by access code. -/
def hostWrite (off : Nat) (v : Word) (s : State) : Host.Outcome State Fault Refusal :=
  match regAt off with
  | none => .next s
  | some r =>
    match r.access with
    | .wo => issueCommand v s
    | .ro => .next s
    | .rw => .next (writeReg r v s)

/-- One host access with its checks in the order of R630: F_ACCESS, then F_BUSY_WRITE for writes. -/
def hostAccess (a : HostAccess) (s : State) : Host.Outcome State Fault Refusal :=
  match a with
  | .read off n =>
    if admitted off n then .next (observe off (hostRead off s) s) else .next (raiseFault (.fAccess off n) s)
  | .write off n v =>
    if admitted off n then
      if s.busy then .next (raiseFault (.fBusyWrite off v) s) else hostWrite off v s
    else .next (raiseFault (.fAccess off n) s)

end Sys2Proof.Machine
end

