-- ==== Sys2Proof/Machine/HostProgram.lean ====
section
/-! DEFINITION. The host agent running a program in the notation of R340, one statement a host step, and the
pseudo-instructions of R341 (log entries 9, 17 and 18). -/

namespace Sys2Proof.Machine

/-- Where a label stands in a program; the end of the program if nothing defines it (log entry 17). -/
def labelIndex (prog : List Stmt) (l : Label) : Nat := prog.findIdx (· == .label l)

/-- `WR`: a 32-bit write. While BUSY = 1 the step records F_BUSY_WRITE and has no other effect, so the host stays at its
statement (R620, log entry 18). -/
def wrStmt (off : Nat) (v : Word) (s : State) : Host.Outcome State Fault Refusal :=
  if s.busy then hostAccess (.write off Config.accessBytes v) s
  else andThen (hostAccess (.write off Config.accessBytes v) s) advance

/-- One `RD REG`, after which the host goes on as `next` says. -/
def rdStmt (r : Reg) (next : State → State) (s : State) : Host.Outcome State Fault Refusal :=
  andThen (hostAccess (.read r.offset Config.accessBytes) s) next

/-- Whether REG.FIELD holds a value (R340). -/
def fieldIs (f : Field) (v : Word) (s : State) : Bool := fieldValue f (hostRead f.reg.offset s) == v

/-- Continue at a label. -/
def jumpTo (l : Label) (s : State) : State := { s with hpc := labelIndex s.prog l }

/-- One statement (R340). -/
def runStmt (st : Stmt) (s : State) : Host.Outcome State Fault Refusal :=
  match st with
  | .wr r v => wrStmt r.offset v s
  | .rd r => rdStmt r advance s
  | .cmd i => wrStmt Reg.cmd.offset (encodeWord i) s
  | .poll => rdStmt .status (if fieldIs fieldBusy 0 s then advance else id) s
  | .label _ => .next (advance s)
  | .jeq f v l => rdStmt f.reg (if fieldIs f v s then jumpTo l else advance) s
  | .jne f v l => rdStmt f.reg (if fieldIs f v s then advance else jumpTo l) s
  | .jmp l => .next (jumpTo l s)
  | .halt => .next s

/-- The host takes the statement it stands at; past its last statement it takes none. -/
def hostStmt (s : State) : Host.Outcome State Fault Refusal :=
  match s.prog[s.hpc]? with
  | some st => runStmt st s
  | none => .next s

/-- `LDPKT a, p, k, s` (R341): the flags word is `(k << 1) | s`. -/
def ldpkt (a p k st : Word) : List Stmt := [.wr .pktAddr a, .wr .pktPos p, .wr .pktFlags ((k <<< 1) ||| st)]

/-- `LDRX b0, b1, b2, b3, b4` (R341). -/
def ldrx (b0 b1 b2 b3 b4 : Word) : List Stmt :=
  [.wr (.rxbuf 0) b0, .wr (.rxbuf 1) b1, .wr (.rxbuf 2) b2, .wr (.rxbuf 3) b3, .wr (.rxbuf 4) b4]

/-- `CRC8 b0, ..., bn` (R341). -/
def crc8Stmts (bs : List Byte) : List Stmt := .cmd .crcinit :: bs.map (fun b => .cmd (.crcbyte b))

/-- `SENDW` (R341). -/
def sendw : List Stmt := [.cmd .send, .poll]

/-- `XCHGW` (R341). -/
def xchgw : List Stmt := [.cmd .xchg, .poll]

end Sys2Proof.Machine
end

