-- ==== Sys2Proof/Machine/Inputs.lean ====
section
/-! DEFINITION. What one input does (R12, R13): the step of one agent. -/

namespace Sys2Proof.Machine

/-- The step that an input stands for. -/
def runInput (i : Input) (s : State) : Host.Outcome State Fault Refusal :=
  match i with
  | .host a => hostAccess a s
  | .hostStmt => hostStmt s
  | .writeAnswered a => .next (txStep a s)
  | .waitElapsed us => .next (waitStep us s)
  | .readAnswered a => .next (rxStep a s)
  | .reset reached => .next (resetStep reached s)

/-- Take the oldest input. With none, no agent steps: the block waits and nothing changes (R454, R702). -/
def takeInput (s : State) : Host.Outcome State Fault Refusal :=
  match s.inputs with
  | [] => .next s
  | i :: rest => runInput i { s with inputs := rest }

/-- The host's next access is a write of `w` to CMD. -/
def placeCommand (w : Word) (s : State) : State :=
  { s with inputs := .host (.write Reg.cmd.offset Config.accessBytes w) :: s.inputs }

end Sys2Proof.Machine
end

