-- ==== Sys2Proof/Safety.lean ====
section
/-! DEFINITION. What claims about the block are stated in: the fault-free premise and the outcomes of R614 and R620, the
invariant that every step keeps (R105, R130, R214, R461, R720), bit flips of a frame (R407), and which inputs are
which. -/

namespace Sys2Proof.Machine

/-- `k` steps of the block, stopping at the first that does not answer a next state (the same as the host's
`Core.run` of `core`). -/
def runSteps : Nat → State → Host.Outcome State Fault Refusal
  | 0, s => .next s
  | k + 1, s =>
    match step s with
    | .next t => runSteps k t
    | .fault r => .fault r
    | .refused r => .refused r

/-- The premise of every claim about a host program: "FAULT is empty" (R620). -/
abbrev FaultFree (s : State) : Prop := s.faults = []

/-- No command is in progress and the last one has completed (R120, R469). -/
abbrev Ended (s : State) : Prop := s.busy = false ∧ s.done = true

/-- A final state: ended, and with an empty FAULT record (R620). -/
abbrev Final (s : State) : Prop := Ended s ∧ FaultFree s

/-- The outcome of a completed command (R614). -/
inductive Cause where
  | ok
  | ioerrWrite
  | ioerrRead
  | ioerrShort
  | cmderr
  deriving DecidableEq, Repr

/-- What the outcome bits look like for each cause (R614). -/
def Cause.shows : Cause → State → Prop
  | .ok, s => s.ioerr = false ∧ s.cmderr = false ∧ s.ioSrc = .none
  | .ioerrWrite, s => s.ioerr = true ∧ s.cmderr = false ∧ s.ioSrc = .write
  | .ioerrRead, s => s.ioerr = true ∧ s.cmderr = false ∧ s.ioSrc = .read
  | .ioerrShort, s => s.ioerr = true ∧ s.cmderr = false ∧ s.ioSrc = .short
  | .cmderr, s => s.ioerr = false ∧ s.cmderr = true ∧ s.ioSrc = .none

/-- The commands that can end with each cause, by LASTOP (R614). -/
def Cause.opcodes : Cause → Byte → Prop
  | .ok, b => 1 ≤ b.toNat ∧ b.toNat ≤ 6
  | .ioerrWrite, b => b = opcode .send ∨ b = opcode .xchg
  | .ioerrRead, b | .ioerrShort, b => b = opcode .xchg
  | .cmderr, b => b = 0 ∨ 7 ≤ b.toNat

/-- The bits a register keeps of a word written to it; 0 for one that is not RW (R104 to R117). -/
def Reg.writeMask : Reg → Word
  | .pktAddr | .pktPos => 0x0000FFFF
  | .pktFlags => 0x00000003
  | .rxbuf _ | .crcAcc => 0x000000FF
  | .replyDelay => 0xFFFFFFFF
  | .cmd | .status | .txbuf _ | .dAddr | .dPos | .dFlags | .ioerrInfo => 0

/-- A frame with bit `i` of the 4-byte big-endian word of bytes 0 to 3 flipped, byte 4 kept: the error pattern e_i of
R407. Bit 0 is bit 0 of byte 3, bit 31 is bit 7 of byte 0. -/
def Frame.flipBit (f : Frame) (i : Fin 32) : Frame :=
  let e : Word := 1#32 <<< i.val
  { f with
    f0 := f.f0 ^^^ e.extractLsb' 24 8
    f1 := f.f1 ^^^ e.extractLsb' 16 8
    f2 := f.f2 ^^^ e.extractLsb' 8 8
    f3 := f.f3 ^^^ e.extractLsb' 0 8 }

/-- Is this input a reset? -/
def Input.isReset : Input → Bool
  | .reset _ => true
  | .host _ | .hostStmt | .writeAnswered _ | .waitElapsed _ | .readAnswered _ => false

/-- Is this input a step of the host? -/
def Input.isHost : Input → Bool
  | .host _ | .hostStmt => true
  | .writeAnswered _ | .waitElapsed _ | .readAnswered _ | .reset _ => false

/-- Is this input a read that R201 admits? -/
def Input.isRead : Input → Bool
  | .host (.read off n) => admitted off n
  | .host (.write _ _ _) | .hostStmt | .writeAnswered _ | .waitElapsed _ | .readAnswered _ | .reset _ => false

/-- Does the next step reset the block? -/
def State.resetsNext (s : State) : Bool := (s.inputs.head?.map Input.isReset).getD false

/-- The first answer to a write among the inputs, and the inputs after it. -/
def firstWriteAnswer : List Input → Option (WriteAnswer × List Input)
  | [] => none
  | .writeAnswered a :: rest => some (a, rest)
  | .host _ :: rest | .hostStmt :: rest | .waitElapsed _ :: rest | .readAnswered _ :: rest | .reset _ :: rest =>
    firstWriteAnswer rest

/-- The inputs after the first WAIT end that comes at least `delay` microseconds after entry to WAIT. -/
def afterWaitEnd (delay : Nat) : List Input → Option (List Input)
  | [] => none
  | .waitElapsed us :: rest => if delay ≤ us then some rest else afterWaitEnd delay rest
  | .host _ :: rest | .hostStmt :: rest | .writeAnswered _ :: rest | .readAnswered _ :: rest | .reset _ :: rest =>
    afterWaitEnd delay rest

/-- Is there an answer to a read among the inputs? -/
def readAnswerComes (l : List Input) : Bool :=
  l.any fun
    | .readAnswered _ => true
    | .host _ | .hostStmt | .writeAnswered _ | .waitElapsed _ | .reset _ => false

/-- The premise `ChannelAnswers` of R454 for the transaction in progress: each request it makes is answered by the
inputs. SEND makes no read request (R456), and neither does XCHG after a write error (R457); XCHG makes one only where
its WAIT ends (R462). -/
def channelAnswers (s : State) : Bool :=
  match s.phase with
  | .idle => true
  | .tx =>
    match firstWriteAnswer s.inputs with
    | none => false
    | some (.err _ _, _) => true
    | some (.ok, rest) => s.curop == some .send || (afterWaitEnd s.replyDelay.toNat rest).all readAnswerComes
  | .wait => (afterWaitEnd s.timer.toNat s.inputs).all readAnswerComes
  | .rx => readAnswerComes s.inputs

/-- R462's fairness for the transaction in progress: if it waits, the WAIT-end step is taken. -/
def waitEnds (s : State) : Bool :=
  match s.phase with
  | .idle | .rx => true
  | .tx =>
    match firstWriteAnswer s.inputs with
    | none | some (.err _ _, _) => true
    | some (.ok, rest) => s.curop == some .send || (afterWaitEnd s.replyDelay.toNat rest).isSome
  | .wait => (afterWaitEnd s.timer.toNat s.inputs).isSome

/-- The transaction in progress ends before the inputs run out. -/
def EndsInTime (s : State) : Prop := ∃ k t, k ≤ s.inputs.length ∧ runSteps k s = .next t ∧ Ended t

/-- Is this input an answer of the channel? -/
def Input.isAnswer : Input → Bool
  | .writeAnswered _ | .readAnswered _ => true
  | .host _ | .hostStmt | .waitElapsed _ | .reset _ => false

/-- The decoded-packet registers D_ADDR, D_POS and D_FLAGS hold what R421 writes for a frame. -/
def DecodedFrom (f : Frame) (s : State) : Prop :=
  s.dAddr = (unpack f).address ∧ s.dPos = (unpack f).position ∧ s.dKind = (unpack f).kind ∧
    s.dStatus = (unpack f).status ∧ s.dSyncOk = (unpack f).syncOk ∧ s.dCrcOk = (unpack f).crcOk ∧
    s.dValid = (unpack f).valid ∧ s.dDecoded = true

/-- Two states hold the same decoded packet. -/
def SameDecoded (s t : State) : Prop :=
  t.dAddr = s.dAddr ∧ t.dPos = s.dPos ∧ t.dKind = s.dKind ∧ t.dStatus = s.dStatus ∧
    t.dSyncOk = s.dSyncOk ∧ t.dCrcOk = s.dCrcOk ∧ t.dValid = s.dValid ∧ t.dDecoded = s.dDecoded

/-- Two states show the same outcome of the last command: DONE, IOERR, CMDERR and IOERR_INFO (R641). -/
def SameOutcome (s t : State) : Prop :=
  t.done = s.done ∧ t.ioerr = s.ioerr ∧ t.cmderr = s.cmderr ∧ t.ioSrc = s.ioSrc ∧ t.ioCount = s.ioCount ∧
    t.ioCode = s.ioCode

/-- The invariant of the block. -/
structure Inv (s : State) : Prop where
  /-- BUSY = 1 exactly when PHASE is not IDLE (R105). -/
  busy_iff : s.busy = true ↔ s.phase ≠ .idle
  /-- BUSY = 1 implies DONE = 0 (R105). -/
  busy_done : s.busy = true → s.done = false
  /-- IOERR and CMDERR never hold together (R105). -/
  not_both : ¬(s.ioerr = true ∧ s.cmderr = true)
  /-- An error is recorded only when the command completes (R330, R610). -/
  error_done : s.ioerr = true ∨ s.cmderr = true → s.done = true
  /-- Neither busy nor done: no command has been accepted since reset (R120). -/
  fresh : s.busy = false → s.done = false → s.lastop = 0 ∧ s.curop = none
  /-- CUROP is the command in progress and LASTOP its opcode (R130). -/
  curop_lastop : s.busy = true → s.curop.map (fun op => opcode op.instr) = some s.lastop
  /-- Only XCHG waits and reads (R460). -/
  wait_xchg : s.phase = .wait ∨ s.phase = .rx → s.curop = some .xchg
  /-- The frame in TXBUF is the packet's, throughout a transaction (R455, R720). -/
  busy_txbuf : s.busy = true → s.txbuf = pack s.pktAddr s.pktPos s.pktKind s.pktStatus
  /-- In WAIT, TIMER holds the reply delay (R461, R720). -/
  wait_timer : s.phase = .wait → s.timer = s.replyDelay
  /-- IOERR_INFO.SRC is none exactly when IOERR = 0 (R115, R610). -/
  src_iff : s.ioSrc = .none ↔ s.ioerr = false
  /-- CODE is 0 but for a write or read error (R115). -/
  code_zero : s.ioSrc = .none ∨ s.ioSrc = .short → s.ioCode = 0
  /-- COUNT is 0 but for a short read (R115). -/
  count_zero : s.ioSrc ≠ .short → s.ioCount = 0
  /-- COUNT is at most 4 (R115). -/
  count_le : s.ioCount.toNat ≤ 4
  /-- CMDERR belongs to a reserved opcode (R613). -/
  cmderr_op : s.cmderr = true → Cause.cmderr.opcodes s.lastop
  /-- Any other completed command is one of the six (R310). -/
  done_op : s.done = true → s.cmderr = false → Cause.ok.opcodes s.lastop
  /-- A write error belongs to SEND or XCHG (R611). -/
  write_op : s.ioSrc = .write → Cause.ioerrWrite.opcodes s.lastop
  /-- A read error or short read belongs to XCHG (R611). -/
  read_op : s.ioSrc = .read ∨ s.ioSrc = .short → Cause.ioerrRead.opcodes s.lastop
  /-- VALID = SYNC_OK and CRC_OK (R113). -/
  valid_and : s.dValid = (s.dSyncOk && s.dCrcOk)
  /-- Before the first decode the decoded packet is all zero (R113). -/
  undecoded : s.dDecoded = false →
    s.dAddr = 0 ∧ s.dPos = 0 ∧ s.dKind = 0 ∧ s.dStatus = 0 ∧ s.dSyncOk = false ∧ s.dCrcOk = false
  /-- In TX and WAIT the last request made is the write of TXBUF (R214, R458). -/
  last_write : s.phase = .tx ∨ s.phase = .wait → s.chanReqs.getLast? = some (.write s.txbuf)
  /-- In RX the last request made is the read (R214, R462). -/
  last_read : s.phase = .rx → s.chanReqs.getLast? = some .read

end Sys2Proof.Machine
end

