-- ==== Sys2Proof/WellFormed.lean ====
section
/-! DEFINITION. Well-formedness of syntax. Every term of `Instr` is a command: its one operand is a byte by its type
(R301). A host program (R340) has two checks: the field of a JEQ or JNE is one the register tables name, and a label
that a jump names is defined, once. -/

namespace Sys2Proof

/-- No command has an ill-formed operand (R301, R302). -/
def Instr.wellFormed : Instr → Bool
  | .encode | .decode | .crcinit | .crcbyte _ | .send | .xchg => true

namespace Machine

/-- How many statements of a program define a label. -/
def labelCount (prog : List Stmt) (l : Label) : Nat := prog.count (.label l)

/-- The checks on one statement of a program (R340). -/
def Stmt.wellFormed (prog : List Stmt) : Stmt → Bool
  | .jeq f _ l | .jne f _ l => namedFields.contains f && labelCount prog l == 1
  | .jmp l => labelCount prog l == 1
  | .label l => labelCount prog l == 1
  | .cmd i => i.wellFormed
  | .wr _ _ | .rd _ | .poll | .halt => true

/-- The checks on a host program (R340). -/
def programWellFormed (prog : List Stmt) : Bool := prog.all (Stmt.wellFormed prog)

end Machine

end Sys2Proof
end

