-- ==== Sys2Proof/Certificates/Slice0/Obligations.lean ====
section
/-! DEFINITION. The statements for the provers, drawn from the numbered rules of spec/. `s.inputs = i :: rest` says which
agent steps next; `{ s with inputs := rest }` is the state in which that step acts. -/

open Sys2Proof Sys2Proof.Machine

/-! ## The command word -/

/-- R301, R310, R330: words written out bit by bit, one for each row of the opcode map, some with ignored bits set, and
four reserved ones (V50). -/
def Obligations.OpcodeMapWordsDecode : Prop :=
  decodeWord 0b00000000000000000000000000000001 = .instr .encode ∧
  decodeWord 0b11111111111111111010101100000001 = .instr .encode ∧
  decodeWord 0b00000000000000000000000000000010 = .instr .decode ∧
  decodeWord 0b00000000000000000000000000000011 = .instr .crcinit ∧
  decodeWord 0b00000000000000001101010000000100 = .instr (.crcbyte 0xD4) ∧
  decodeWord 0b10101011110011010011000100000100 = .instr (.crcbyte 0x31) ∧
  decodeWord 0b00000000000000000000000000000101 = .instr .send ∧
  decodeWord 0b00000000000000000000000000000110 = .instr .xchg ∧
  decodeWord 0b00000000000000000000000000000000 = .reserved 0x00 ∧
  decodeWord 0b00000000000000000000000000000111 = .reserved 0x07 ∧
  decodeWord 0b00000000000000000000000011111111 = .reserved 0xFF ∧
  decodeWord 0b11111111111111111111111100000000 = .reserved 0x00

/-- R310, R331: a word decodes to a command exactly when its bits under the command's mask are those of the command's
word; so the encoder's word decodes back, with IMM8 at each of its values, and no word has two meanings. -/
def Obligations.DecodeInvertsEncode : Prop :=
  ∀ i : Instr, i.wellFormed = true →
    decodeWord (encodeWord i) = .instr i ∧
    (∀ w : Word, decodeWord w = .instr i ↔ w &&& fieldMask i = encodeWord i)

/-- R331: two words that differ only in ignored bits issue the same command with the same effect, reserved opcodes
included. -/
def Obligations.IgnoredCommandBitsHaveNoEffect : Prop :=
  ∀ (s : State) (v w : Word), opcField v = opcField w → (opcField v = 0x04 → immField v = immField w) →
    decodeWord v = decodeWord w ∧ issueCommand v s = issueCommand w s ∧
    (s.busy = false →
      step { s with inputs := .host (.write 0x00 4 v) :: s.inputs } =
        step { s with inputs := .host (.write 0x00 4 w) :: s.inputs })

/-- R203, R315: a write of a command's word to CMD while BUSY = 0 is that command's step; the step adds nothing around
`exec` but taking the host's access off the inputs. `withFetchWord` places such a write first. -/
def Obligations.StepRunsTheDecodedCommand : Prop :=
  (∀ (s : State) (w : Word) (i : Instr) (rest : List Input), s.busy = false → decodeWord w = .instr i →
    s.inputs = .host (.write 0x00 4 w) :: rest → step s = exec i { s with inputs := rest }) ∧
  (∀ (s : State) (nbits w : Nat) (i : Instr), s.busy = false → decodeTableWord nbits w = some i →
    step (s.withFetchWord nbits w) = exec i s)

/-! ## The codec datapath -/

/-- R321: the packed frame, read as one 40-bit big-endian number, is sync, address, position, kind, status, checksum. -/
def Obligations.PackLaysOutTheFrame : Prop :=
  ∀ (a p : BitVec 16) (k st : BitVec 1),
    (pack a p k st).toWord =
      0xD4#8 ++ a.extractLsb' 0 10 ++ p.extractLsb' 0 12 ++ k ++ st ++ crc8 (pack a p k st).head

/-- R404: unpack reads the fields of every frame from its raw bits, valid or not, and VALID is the conjunction of the
two checks. The first equation says where each field lies: the frame is its sync byte, then the four fields, then its
checksum byte. -/
def Obligations.UnpackReadsEveryFrame : Prop :=
  ∀ f : Frame,
    f.toWord = f.f0 ++ (unpack f).address ++ (unpack f).position ++ (unpack f).kind ++ (unpack f).status ++ f.f4 ∧
    ((unpack f).syncOk = true ↔ f.f0 = 0xD4) ∧
    ((unpack f).crcOk = true ↔ crc8 [f.f0, f.f1, f.f2, f.f3] = f.f4) ∧
    ((unpack f).valid = true ↔ f.f0 = 0xD4 ∧ crc8 [f.f0, f.f1, f.f2, f.f3] = f.f4)

/-- R406: unpack gives back what pack was given, cut to 10 and 12 bits, and the frame is valid. -/
def Obligations.UnpackInvertsPack : Prop :=
  ∀ (a p : BitVec 16) (k st : BitVec 1),
    let u := unpack (pack a p k st)
    u.address = a.extractLsb' 0 10 ∧ u.position = p.extractLsb' 0 12 ∧ u.kind = k ∧ u.status = st ∧ u.valid = true ∧
    (a.toNat ≤ 1023 → u.address.toNat = a.toNat) ∧ (p.toNat ≤ 4095 → u.position.toNat = p.toNat)

/-- R401, R404: the valid frames are exactly the encodings: a frame that unpacks as valid is the frame of its own
fields. -/
def Obligations.ValidFramesAreEncodings : Prop :=
  ∀ f : Frame, (unpack f).valid = true →
    pack ((unpack f).address.setWidth 16) ((unpack f).position.setWidth 16) (unpack f).kind (unpack f).status = f

/-- R407: every single-bit error in bytes 0 to 3 of an encoded frame is detected, and one in byte 0 fails the sync
check too. -/
def Obligations.SingleBitErrorsAreDetected : Prop :=
  ∀ (a p : BitVec 16) (k st : BitVec 1) (i : Fin 32),
    let u := unpack ((pack a p k st).flipBit i)
    u.crcOk = false ∧ u.valid = false ∧ (24 ≤ i.val → u.syncOk = false)

/-- R408: a wrong sync byte under a matching checksum. -/
def Obligations.SyncGateRejectsAWrongFirstByte : Prop :=
  ∀ f : Frame, f.f0 ≠ 0xD4 → f.f4 = crc8 [f.f0, f.f1, f.f2, f.f3] →
    (unpack f).crcOk = true ∧ (unpack f).syncOk = false ∧ (unpack f).valid = false

/-- R140, R403: each of the 256 listed entries of CRC_TABLE is the bit-serial CRC of its index, so one table step is
one byte of the bit-serial CRC. -/
def Obligations.CrcTableIsTheBitSerialCrc : Prop :=
  (∀ i : Byte, crcTable i = crc8Bitwise [i]) ∧
  crcTable 0x01 = 0x07 ∧ crcTable 0x80 = 0x89 ∧ crcTable 0xD4 = 0x22 ∧
  (crcRomLow ++ crcRomHigh).length = 256

/-- R403: folding table steps over a sequence from 0 gives its CRC, and one more byte is one more step. -/
def Obligations.TableFoldIsCrc8 : Prop :=
  (∀ bs : List Byte, bs.foldl crc8Step 0x00 = crc8 bs) ∧
  (∀ (bs : List Byte) (b : Byte), crc8 (bs ++ [b]) = crc8Step (crc8 bs) b)

/-- R402, R409: the check value, and the contrast with the reflected variant (V1, V41). -/
def Obligations.CrcCheckValueIsF4 : Prop :=
  crc8 [0x31, 0x32, 0x33, 0x34, 0x35, 0x36, 0x37, 0x38, 0x39] = 0xF4 ∧ crc8 [0xD4, 0x00, 0x00, 0x02] = 0x9B ∧
  crc8 [] = 0x00

/-- R401, R402 (V31): the five bytes of an encoded frame leave a zero residue. -/
def Obligations.EncodedFrameLeavesZeroResidue : Prop :=
  ∀ (a p : BitVec 16) (k st : BitVec 1), crc8 (pack a p k st).bytes = 0x00

/-! ## The commands -/

/-- R420: what ENCODE is, does and leaves alone; truncation; the two frames the rule gives. -/
def Obligations.EncodeWritesTheFrame : Prop :=
  (∀ v : Word, opcField v = 0x01 → decodeWord v = .instr .encode) ∧
  (∀ s : State, exec .encode s = .next
    { s with
      txbuf := pack s.pktAddr s.pktPos s.pktKind s.pktStatus
      done := true, ioerr := false, cmderr := false, ioSrc := .none, ioCount := 0, ioCode := 0, lastop := 0x01 }) ∧
  (∀ (a p : BitVec 16) (k st : BitVec 1), pack (a &&& 0x03FF) (p &&& 0x0FFF) k st = pack a p k st) ∧
  pack 0 0 0 0 = ⟨0xD4, 0x00, 0x00, 0x00, 0x95⟩ ∧
  pack 0 0 1 0 = ⟨0xD4, 0x00, 0x00, 0x02, 0x9B⟩

/-- R421: what DECODE is, does and leaves alone, and the frames the rule gives. -/
def Obligations.DecodeWritesThePacket : Prop :=
  (∀ v : Word, opcField v = 0x02 → decodeWord v = .instr .decode) ∧
  (∀ s : State, exec .decode s = .next
    { s with
      dAddr := (unpack s.rxbuf).address, dPos := (unpack s.rxbuf).position
      dKind := (unpack s.rxbuf).kind, dStatus := (unpack s.rxbuf).status
      dSyncOk := (unpack s.rxbuf).syncOk, dCrcOk := (unpack s.rxbuf).crcOk
      dValid := (unpack s.rxbuf).valid, dDecoded := true
      done := true, ioerr := false, cmderr := false, ioSrc := .none, ioCount := 0, ioCode := 0, lastop := 0x02 }) ∧
  unpack Frame.zero = ⟨0, 0, 0, 0, false, true, false⟩ ∧
  unpack ⟨0xD4, 0x4B, 0x13, 0x4A, 0x66⟩ = ⟨300, 1234, 1, 0, true, true, true⟩

/-- R422: what CRCINIT is, does and leaves alone. -/
def Obligations.CrcinitClearsTheAccumulator : Prop :=
  (∀ v : Word, opcField v = 0x03 → decodeWord v = .instr .crcinit) ∧
  (∀ s : State, exec .crcinit s = .next
    { s with
      crcAcc := 0x00
      done := true, ioerr := false, cmderr := false, ioSrc := .none, ioCount := 0, ioCode := 0, lastop := 0x03 })

/-- R423: what CRCBYTE is, does and leaves alone, and its corner cases. -/
def Obligations.CrcbyteStepsTheAccumulator : Prop :=
  (∀ v : Word, opcField v = 0x04 → decodeWord v = .instr (.crcbyte (v.extractLsb' 8 8))) ∧
  (∀ (s : State) (b : Byte), exec (.crcbyte b) s = .next
    { s with
      crcAcc := crcTable (s.crcAcc ^^^ b)
      done := true, ioerr := false, cmderr := false, ioSrc := .none, ioCount := 0, ioCode := 0, lastop := 0x04 }) ∧
  (∀ b : Byte, crcTable (b ^^^ b) = 0x00) ∧
  (∀ bs : List Byte, bs.foldl (fun acc b => crcTable (acc ^^^ b)) 0x00 = crc8 bs) ∧
  crcTable (0x00 ^^^ 0xD4) = 0x22 ∧ crcTable (0x22 ^^^ 0x00) = 0xEE ∧
  crcTable (0xEE ^^^ 0x00) = 0x84 ∧ crcTable (0x84 ^^^ 0x02) = 0x9B

/-- R315, R455, R456: the step that issues SEND packs the frame, clears the old outcome, enters TX with BUSY = 1 and
makes the write request; it puts nothing on the wire and writes nothing else. -/
def Obligations.SendIsAccepted : Prop :=
  (∀ v : Word, opcField v = 0x05 → decodeWord v = .instr .send) ∧
  (∀ s : State, exec .send s = .next
    { s with
      txbuf := pack s.pktAddr s.pktPos s.pktKind s.pktStatus
      curop := some .send, busy := true, phase := .tx
      chanReqs := s.chanReqs ++ [.write (pack s.pktAddr s.pktPos s.pktKind s.pktStatus)]
      done := false, ioerr := false, cmderr := false, ioSrc := .none, ioCount := 0, ioCode := 0, lastop := 0x05 })

/-- R315, R455, R457: the same for XCHG. -/
def Obligations.XchgIsAccepted : Prop :=
  (∀ v : Word, opcField v = 0x06 → decodeWord v = .instr .xchg) ∧
  (∀ s : State, exec .xchg s = .next
    { s with
      txbuf := pack s.pktAddr s.pktPos s.pktKind s.pktStatus
      curop := some .xchg, busy := true, phase := .tx
      chanReqs := s.chanReqs ++ [.write (pack s.pktAddr s.pktPos s.pktKind s.pktStatus)]
      done := false, ioerr := false, cmderr := false, ioSrc := .none, ioCount := 0, ioCode := 0, lastop := 0x06 })

/-- R330: a reserved opcode completes in its issuing step with CMDERR and DONE and changes no other register; there are
250 of them. -/
def Obligations.ReservedOpcodeSetsCmderr : Prop :=
  (∀ (s : State) (w : Word) (rest : List Input), s.busy = false →
    s.inputs = .host (.write 0x00 4 w) :: rest →
    opcField w = 0x00 ∨ 0x07 ≤ (opcField w).toNat →
    step s = .next
      { s with
        inputs := rest
        cmderr := true, done := true
        ioerr := false, ioSrc := .none, ioCount := 0, ioCode := 0, lastop := opcField w }) ∧
  (∀ w : Word, (∃ opc, decodeWord w = .reserved opc) ↔ opcField w = 0x00 ∨ 0x07 ≤ (opcField w).toNat) ∧
  ((List.range 256).filter (fun n => decide (decodeWord (BitVec.ofNat 32 n) = .reserved (BitVec.ofNat 8 n)))).length = 250

/-- R302, R420 to R423, R455 (frame): what the six commands leave alone in their issuing step. Only ENCODE, SEND and XCHG
write TXBUF; only DECODE the decoded packet; only CRCINIT and CRCBYTE the accumulator; only SEND and XCHG touch BUSY,
PHASE, CUROP and the channel. No command writes PKT_*, RXBUF, REPLY_DELAY, TIMER, FAULT or the wire. -/
def Obligations.CommandsLeaveTheRestAlone : Prop :=
  ∀ (i : Instr) (s t : State), exec i s = .next t →
    (t.pktAddr = s.pktAddr ∧ t.pktPos = s.pktPos ∧ t.pktKind = s.pktKind ∧ t.pktStatus = s.pktStatus ∧
      t.rxbuf = s.rxbuf ∧ t.replyDelay = s.replyDelay ∧ t.timer = s.timer ∧ t.faults = s.faults) ∧
    (t.inputs = s.inputs ∧ t.prog = s.prog ∧ t.hpc = s.hpc ∧ t.obs = s.obs ∧ t.wire = s.wire) ∧
    (i ≠ .encode → i ≠ .send → i ≠ .xchg → t.txbuf = s.txbuf) ∧
    (i ≠ .decode → SameDecoded s t) ∧
    (i ≠ .crcinit → (∀ b, i ≠ .crcbyte b) → t.crcAcc = s.crcAcc) ∧
    (i ≠ .send → i ≠ .xchg →
      t.busy = s.busy ∧ t.phase = s.phase ∧ t.curop = s.curop ∧ t.chanReqs = s.chanReqs) ∧
    (t.ioerr = false ∧ t.cmderr = false ∧ t.ioSrc = .none ∧ t.ioCount = 0 ∧ t.ioCode = 0 ∧ t.lastop = opcode i)

/-- R114, R403: ENCODE, DECODE, SEND and XCHG, and the sequencer steps that carry the last two out, neither read nor
write CRC_ACC: from two states that differ in it alone they go to two states that differ in it alone. -/
def Obligations.CrcAccIsOutsideTheFrameDatapath : Prop :=
  ∀ (s : State) (c : Byte),
    (∀ i : Instr, i ≠ .crcinit → (∀ b, i ≠ .crcbyte b) →
      exec i { s with crcAcc := c } = andThen (exec i s) (fun t => { t with crcAcc := c })) ∧
    (∀ i : Input, i.isHost = false → i.isReset = false →
      runInput i { s with crcAcc := c } = andThen (runInput i s) (fun t => { t with crcAcc := c }))

/-- R341, R402, R422, R423: CRCINIT and then CRCBYTE of each byte of a sequence leave its CRC in CRC_ACC. -/
def Obligations.CrcCommandsComputeCrc8 : Prop :=
  ∀ (s : State) (bs : List Byte), s.busy = false →
    s.inputs = .host (.write 0x00 4 0x00000003) :: bs.map (fun b => .host (.write 0x00 4 (0#16 ++ b ++ 0x04#8))) →
    ∃ t, runSteps (bs.length + 1) s = .next t ∧ t.crcAcc = crc8 bs ∧ t.done = true ∧ t.busy = false ∧ t.inputs = []

/-- R420, R421, R406: ENCODE, a copy of TXBUF into RXBUF, and DECODE give back the packet, cut to its field widths, as
valid. -/
def Obligations.EncodeThenDecodeGivesThePacket : Prop :=
  ∀ s t u : State, exec .encode s = .next t → exec .decode { t with rxbuf := t.txbuf } = .next u →
    u.dAddr = s.pktAddr.extractLsb' 0 10 ∧ u.dPos = s.pktPos.extractLsb' 0 12 ∧ u.dKind = s.pktKind ∧
      u.dStatus = s.pktStatus ∧ u.dValid = true ∧ u.dDecoded = true

/-! ## The host port -/

/-- R621: an access that is not 4 wide, not aligned, or outside the window records F_ACCESS(off, n), busy or not, and
the step has no other effect. -/
def Obligations.InadmissibleAccessRecordsFAccess : Prop :=
  ∀ (s : State) (rest : List Input) (off n : Nat) (v : Word), n ≠ 4 ∨ off % 4 ≠ 0 ∨ 0x80 ≤ off →
    (s.inputs = .host (.read off n) :: rest →
      step s = .next { s with inputs := rest, faults := s.faults ++ [.fAccess off n] }) ∧
    (s.inputs = .host (.write off n v) :: rest →
      step s = .next { s with inputs := rest, faults := s.faults ++ [.fAccess off n] })

/-- R622, R720: an admitted write to any offset, CMD included, while BUSY = 1 records F_BUSY_WRITE(off, v) and has no
other effect. -/
def Obligations.WriteWhileBusyRecordsFBusyWrite : Prop :=
  ∀ (s : State) (rest : List Input) (off : Nat) (v : Word), s.busy = true → off % 4 = 0 → off < 0x80 →
    s.inputs = .host (.write off 4 v) :: rest →
    step s = .next { s with inputs := rest, faults := s.faults ++ [.fBusyWrite off v] }

/-- R202: an admitted read, at any time, returns the register at the offset, 0 for CMD and for a reserved offset, and
changes nothing but what the host has seen. -/
def Obligations.ReadReturnsTheRegister : Prop :=
  ∀ (s : State) (rest : List Input) (off : Nat), off % 4 = 0 → off < 0x80 →
    s.inputs = .host (.read off 4) :: rest →
    ∃ v : Word, step s = .next { s with inputs := rest, obs := s.obs ++ [⟨off, v⟩] } ∧
      (∀ r : Reg, r.offset = off → v = readReg r s) ∧
      (off = 0x00 ∨ 0x54 ≤ off → v = 0)

/-- R103: the table of offsets and access codes, row by row. So every register has its offset to itself, aligned and
inside the window, and the offsets from 0x54 on are reserved and the only ones without a register. -/
def Obligations.RegisterMapIsOneToOne : Prop :=
  (Reg.cmd.offset = 0x00 ∧ Reg.status.offset = 0x04 ∧ Reg.pktAddr.offset = 0x08 ∧ Reg.pktPos.offset = 0x0C ∧
    Reg.pktFlags.offset = 0x10 ∧ (∀ i : Fin 5, (Reg.txbuf i).offset = 0x14 + 4 * i.val) ∧
    (∀ i : Fin 5, (Reg.rxbuf i).offset = 0x28 + 4 * i.val) ∧ Reg.dAddr.offset = 0x3C ∧ Reg.dPos.offset = 0x40 ∧
    Reg.dFlags.offset = 0x44 ∧ Reg.crcAcc.offset = 0x48 ∧ Reg.ioerrInfo.offset = 0x4C ∧
    Reg.replyDelay.offset = 0x50) ∧
  (∀ r : Reg, (r.access = .wo ↔ r.offset = 0x00) ∧
    (r.access = .rw ↔ r.offset ∈ [0x08, 0x0C, 0x10, 0x28, 0x2C, 0x30, 0x34, 0x38, 0x48, 0x50]) ∧
    (r.access = .ro ↔ r.offset ∈ [0x04, 0x14, 0x18, 0x1C, 0x20, 0x24, 0x3C, 0x40, 0x44, 0x4C])) ∧
  (∀ r q : Reg, r.offset = q.offset → r = q) ∧
  (∀ r : Reg, r.offset % 4 = 0 ∧ r.offset ≤ 0x50) ∧
  (∀ off : Nat, off % 4 = 0 → off < 0x80 → ((∃ r : Reg, r.offset = off) ↔ off ≤ 0x50))

/-- R104 to R116: which field of the state stands at which bit of each register, with every other bit 0, said as the
number the register reads as; PHASE and SRC with the values of their tables. -/
def Obligations.RegistersReadAsTheirFields : Prop :=
  ∀ s : State,
    (readReg .cmd s).toNat = 0 ∧
    (readReg .status s).toNat = s.busy.toNat + 2 * s.done.toNat + 4 * s.ioerr.toNat + 8 * s.cmderr.toNat +
      16 * (match s.phase with | .idle => 0 | .tx => 1 | .wait => 2 | .rx => 3) + 256 * s.lastop.toNat ∧
    (readReg .pktAddr s).toNat = s.pktAddr.toNat ∧ (readReg .pktPos s).toNat = s.pktPos.toNat ∧
    (readReg .pktFlags s).toNat = s.pktStatus.toNat + 2 * s.pktKind.toNat ∧
    (∀ i, (readReg (.txbuf i) s).toNat = (s.txbuf.get i).toNat) ∧
    (∀ i, (readReg (.rxbuf i) s).toNat = (s.rxbuf.get i).toNat) ∧
    (readReg .dAddr s).toNat = s.dAddr.toNat ∧ (readReg .dPos s).toNat = s.dPos.toNat ∧
    (readReg .dFlags s).toNat = s.dStatus.toNat + 2 * s.dKind.toNat + 4 * s.dValid.toNat + 8 * s.dSyncOk.toNat +
      16 * s.dCrcOk.toNat + 32 * s.dDecoded.toNat ∧
    (readReg .crcAcc s).toNat = s.crcAcc.toNat ∧
    (readReg .ioerrInfo s).toNat = (match s.ioSrc with | .none => 0 | .write => 1 | .read => 2 | .short => 3) +
      16 * s.ioCount.toNat + 65536 * s.ioCode.toNat ∧
    (readReg .replyDelay s).toNat = s.replyDelay.toNat

/-- R203: what an admitted write with BUSY = 0 does at each offset. -/
def Obligations.WriteStoresTheDefinedFields : Prop :=
  ∀ (s : State) (rest : List Input) (off : Nat) (v : Word), off % 4 = 0 → off < 0x80 →
    s.inputs = .host (.write off 4 v) :: rest →
    (s.busy = true → step s = .next { s with inputs := rest, faults := s.faults ++ [.fBusyWrite off v] }) ∧
    (s.busy = false →
      step s =
        if off = 0x00 then issueCommand v { s with inputs := rest }
        else if off = 0x08 then .next { s with inputs := rest, pktAddr := v.extractLsb' 0 16 }
        else if off = 0x0C then .next { s with inputs := rest, pktPos := v.extractLsb' 0 16 }
        else if off = 0x10 then
          .next { s with inputs := rest, pktStatus := v.extractLsb' 0 1, pktKind := v.extractLsb' 1 1 }
        else if off = 0x28 then .next { s with inputs := rest, rxbuf.f0 := v.extractLsb' 0 8 }
        else if off = 0x2C then .next { s with inputs := rest, rxbuf.f1 := v.extractLsb' 0 8 }
        else if off = 0x30 then .next { s with inputs := rest, rxbuf.f2 := v.extractLsb' 0 8 }
        else if off = 0x34 then .next { s with inputs := rest, rxbuf.f3 := v.extractLsb' 0 8 }
        else if off = 0x38 then .next { s with inputs := rest, rxbuf.f4 := v.extractLsb' 0 8 }
        else if off = 0x48 then .next { s with inputs := rest, crcAcc := v.extractLsb' 0 8 }
        else if off = 0x50 then .next { s with inputs := rest, replyDelay := v }
        else .next { s with inputs := rest })

/-- R117, R203: after an admitted write with BUSY = 0 to a register other than CMD, an RW register reads as the written
bits it keeps, an RO register reads as before, and so does every other register. -/
def Obligations.RegisterReadsBackWhatWasWritten : Prop :=
  ∀ (s : State) (r : Reg) (v : Word) (rest : List Input), s.busy = false → r ≠ .cmd →
    s.inputs = .host (.write r.offset 4 v) :: rest →
    ∃ t, step s = .next t ∧
      (r.access = .rw → readReg r t = v &&& r.writeMask) ∧
      (r.access = .ro → readReg r t = readReg r s) ∧
      (∀ q : Reg, q ≠ r → readReg q t = readReg q s)

/-- R340: each statement of a host program, as the access it makes and where the host goes next. REG.FIELD is the
number in the field's bits, and a label stands at its first definition. A write statement while BUSY = 1 records its
fault and moves nothing. -/
def Obligations.HostStatementsMakeTheirAccess : Prop :=
  (∀ (f : Field) (w : Word), (fieldValue f w).toNat = w.toNat / 2 ^ f.lo % 2 ^ f.width) ∧
  (∀ s : State, let w := readReg .status s
    (fieldValue fieldBusy w).toNat = s.busy.toNat ∧ (fieldValue fieldDone w).toNat = s.done.toNat ∧
    (fieldValue fieldIoerr w).toNat = s.ioerr.toNat ∧ (fieldValue fieldCmderr w).toNat = s.cmderr.toNat ∧
    (fieldValue fieldPhase w).toNat = (match s.phase with | .idle => 0 | .tx => 1 | .wait => 2 | .rx => 3) ∧
    (fieldValue fieldLastop w).toNat = s.lastop.toNat ∧
    (fieldValue fieldValid (readReg .dFlags s)).toNat = s.dValid.toNat) ∧
  (∀ (prog : List Stmt) (l : Label),
    (.label l ∈ prog → prog[labelIndex prog l]? = some (.label l)) ∧
    (∀ j, j < labelIndex prog l → prog[j]? ≠ some (.label l)) ∧
    (.label l ∉ prog → prog[labelIndex prog l]? = none)) ∧
  ∀ (s : State) (st : Stmt) (rest : List Input), s.inputs = .hostStmt :: rest → s.prog[s.hpc]? = some st →
    let u : State := { s with inputs := rest }
    (∀ r v, st = .wr r v → s.busy = false →
      step s = andThen (hostAccess (.write r.offset 4 v) u) (fun t => { t with hpc := t.hpc + 1 })) ∧
    (∀ r v, st = .wr r v → s.busy = true → step s = hostAccess (.write r.offset 4 v) u) ∧
    (∀ i, st = .cmd i → s.busy = false →
      step s = andThen (exec i u) (fun t => { t with hpc := t.hpc + 1 })) ∧
    (∀ i, st = .cmd i → s.busy = true → step s = hostAccess (.write 0x00 4 (encodeWord i)) u) ∧
    (∀ r, st = .rd r →
      step s = .next { u with obs := s.obs ++ [⟨r.offset, readReg r s⟩], hpc := s.hpc + 1 }) ∧
    (st = .poll →
      step s = .next
        { u with obs := s.obs ++ [⟨0x04, readReg .status s⟩], hpc := if s.busy then s.hpc else s.hpc + 1 }) ∧
    (∀ f v l, st = .jeq f v l →
      step s = .next
        { u with
          obs := s.obs ++ [⟨f.reg.offset, readReg f.reg s⟩]
          hpc := if fieldValue f (readReg f.reg s) = v then labelIndex s.prog l else s.hpc + 1 }) ∧
    (∀ f v l, st = .jne f v l →
      step s = .next
        { u with
          obs := s.obs ++ [⟨f.reg.offset, readReg f.reg s⟩]
          hpc := if fieldValue f (readReg f.reg s) = v then s.hpc + 1 else labelIndex s.prog l }) ∧
    (∀ l, st = .label l → step s = .next { u with hpc := s.hpc + 1 }) ∧
    (∀ l, st = .jmp l → step s = .next { u with hpc := labelIndex s.prog l }) ∧
    (st = .halt → step s = .next u)

/-! ## The sequencer -/

/-- R458: the TX step's three outcomes. -/
def Obligations.TxStepHandlesTheAnswer : Prop :=
  ∀ (s : State) (rest : List Input), s.phase = .tx →
    (s.inputs = .writeAnswered .ok :: rest → s.curop = some .send →
      step s = .next
        { s with inputs := rest, busy := false, phase := .idle, done := true, wire := s.wire ++ s.txbuf.bytes }) ∧
    (s.inputs = .writeAnswered .ok :: rest → s.curop ≠ some .send →
      step s = .next
        { s with inputs := rest, timer := s.replyDelay, phase := .wait, wire := s.wire ++ s.txbuf.bytes }) ∧
    (∀ code reached, s.inputs = .writeAnswered (.err code reached) :: rest →
      step s = .next
        { s with
          inputs := rest, busy := false, phase := .idle, done := true
          ioerr := true, ioSrc := .write, ioCode := code, ioCount := 0
          wire := s.wire ++ s.txbuf.bytes.take reached.val })

/-- R462: WAIT ends once at least TIMER microseconds have passed, and no other input but reset ends it. -/
def Obligations.WaitLastsAtLeastTheDelay : Prop :=
  ∀ (s : State) (i : Input) (rest : List Input), s.phase = .wait → s.busy = true → s.inputs = i :: rest →
    (∀ us, i = .waitElapsed us → s.timer.toNat ≤ us →
      step s = .next { s with inputs := rest, phase := .rx, chanReqs := s.chanReqs ++ [.read] }) ∧
    (i.isReset = false → (∀ us, i = .waitElapsed us → us < s.timer.toNat) →
      ∃ t, step s = .next t ∧ t.phase = .wait ∧ t.busy = true ∧ t.timer = s.timer ∧ t.chanReqs = s.chanReqs)

/-- R464: a full reply is stored, decoded and completes the command; the outcome bits are as they were, whatever VALID
is. -/
def Obligations.FullReplyIsDecoded : Prop :=
  ∀ (s : State) (rest : List Input) (f : Frame), s.phase = .rx → s.inputs = .readAnswered (.ok 5 f) :: rest →
    step s = .next
      { s with
        inputs := rest
        rxbuf := f
        dAddr := (unpack f).address, dPos := (unpack f).position, dKind := (unpack f).kind
        dStatus := (unpack f).status, dSyncOk := (unpack f).syncOk, dCrcOk := (unpack f).crcOk
        dValid := (unpack f).valid, dDecoded := true
        busy := false, phase := .idle, done := true }

/-- R465: a read error is recorded and completes the command; RXBUF and the decoded packet are unchanged. -/
def Obligations.ReadErrorIsRecorded : Prop :=
  ∀ (s : State) (rest : List Input) (code : BitVec 16), s.phase = .rx →
    s.inputs = .readAnswered (.err code) :: rest →
    step s = .next
      { s with
        inputs := rest, busy := false, phase := .idle, done := true
        ioerr := true, ioSrc := .read, ioCode := code, ioCount := 0 }

/-- R466: a short reply, of 0 to 4 bytes, is recorded with its count and completes the command; its bytes go nowhere. -/
def Obligations.ShortReplyIsRecorded : Prop :=
  ∀ (s : State) (rest : List Input) (k : Fin 6) (buf : Frame), s.phase = .rx → k.val < 5 →
    s.inputs = .readAnswered (.ok k buf) :: rest →
    ∃ t, step s = .next t ∧ t.ioCount.toNat = k.val ∧
      { t with ioCount := s.ioCount } =
        { s with
          inputs := rest, busy := false, phase := .idle, done := true
          ioerr := true, ioSrc := .short, ioCode := 0 }

/-- R458, R462, R463, R701 (log entry 3): a sequencer step that is not enabled changes nothing. -/
def Obligations.DisabledSequencerStepsChangeNothing : Prop :=
  ∀ (s : State) (rest : List Input),
    (∀ a, s.inputs = .writeAnswered a :: rest → s.phase ≠ .tx → step s = .next { s with inputs := rest }) ∧
    (∀ us, s.inputs = .waitElapsed us :: rest → s.phase ≠ .wait ∨ us < s.timer.toNat →
      step s = .next { s with inputs := rest }) ∧
    (∀ a, s.inputs = .readAnswered a :: rest → s.phase ≠ .rx → step s = .next { s with inputs := rest })

/-- R460: the phase moves only as the rule lists, in states the invariant admits, but for reset; and BUSY = 1 exactly
while it is not IDLE. -/
def Obligations.PhaseMovesInOrder : Prop :=
  ∀ s t : State, Inv s → s.resetsNext = false → step s = .next t →
    (t.phase = s.phase ∨ (s.phase = .idle ∧ t.phase = .tx) ∨ (s.phase = .tx ∧ t.phase = .idle) ∨
      (s.phase = .tx ∧ t.phase = .wait ∧ s.curop = some .xchg) ∨ (s.phase = .wait ∧ t.phase = .rx) ∨
      (s.phase = .rx ∧ t.phase = .idle)) ∧
    (t.busy = true ↔ t.phase ≠ .idle)

/-- R214, R467: the block asks the channel for a write only as it enters TX, of the frame in TXBUF, and for a read only
as it enters RX, and for nothing else; reset asks for nothing. -/
def Obligations.ChannelSeesOneWriteThenOneRead : Prop :=
  ∀ s t : State, Inv s → step s = .next t →
    (t.chanReqs = s.chanReqs ∧ ¬(s.phase = .idle ∧ t.phase = .tx) ∧ ¬(s.phase = .wait ∧ t.phase = .rx)) ∨
    (s.phase = .idle ∧ t.phase = .tx ∧ t.chanReqs = s.chanReqs ++ [.write t.txbuf]) ∨
    (s.phase = .wait ∧ t.phase = .rx ∧ t.chanReqs = s.chanReqs ++ [.read])

/-- R205, R452, R701: only the answer to a write, and a reset in TX, put bytes on the wire: a prefix of TXBUF, byte 0
first, and all of it when the answer is Ok. -/
def Obligations.WireCarriesPrefixesOfTxbuf : Prop :=
  ∀ s t : State, step s = .next t →
    t.wire = s.wire ∨
    (s.phase = .tx ∧ ∃ k : Fin 6, t.wire = s.wire ++ s.txbuf.bytes.take k.val ∧
      (s.inputs.head? = some (.writeAnswered .ok) → k.val = 5) ∧
      ((∃ a, s.inputs.head? = some (.writeAnswered a)) ∨ s.resetsNext = true))

/-- R456: SEND from acceptance to completion: one write request, no read, and the outcome of the write. -/
def Obligations.SendRunsToCompletion : Prop :=
  ∀ (s : State) (w : Word) (a : WriteAnswer) (rest : List Input), s.busy = false → opcField w = 0x05 →
    s.inputs = .host (.write 0x00 4 w) :: .writeAnswered a :: rest →
    ∃ t, runSteps 2 s = .next t ∧ t.inputs = rest ∧ Ended t ∧ t.phase = .idle ∧ t.cmderr = false ∧
      t.txbuf = pack s.pktAddr s.pktPos s.pktKind s.pktStatus ∧
      t.chanReqs = s.chanReqs ++ [.write t.txbuf] ∧
      (a = .ok → Cause.ok.shows t ∧ t.wire = s.wire ++ t.txbuf.bytes) ∧
      (∀ code reached, a = .err code reached →
        Cause.ioerrWrite.shows t ∧ t.ioCode = code ∧ t.ioCount = 0 ∧
          t.wire = s.wire ++ t.txbuf.bytes.take reached.val) ∧
      t.rxbuf = s.rxbuf ∧ SameDecoded s t ∧ t.crcAcc = s.crcAcc ∧ t.faults = s.faults

/-- R457: XCHG from acceptance to completion, with the write accepted, the delay waited out, and each kind of answer to
the read. -/
def Obligations.XchgRunsToCompletion : Prop :=
  ∀ (s : State) (w : Word) (us : Nat) (a : ReadAnswer) (rest : List Input), s.busy = false → opcField w = 0x06 →
    s.replyDelay.toNat ≤ us →
    s.inputs = .host (.write 0x00 4 w) :: .writeAnswered .ok :: .waitElapsed us :: .readAnswered a :: rest →
    ∃ t, runSteps 4 s = .next t ∧ t.inputs = rest ∧ Ended t ∧ t.phase = .idle ∧ t.cmderr = false ∧
      t.txbuf = pack s.pktAddr s.pktPos s.pktKind s.pktStatus ∧ t.wire = s.wire ++ t.txbuf.bytes ∧
      t.chanReqs = s.chanReqs ++ [.write t.txbuf, .read] ∧
      (∀ f, a = .ok 5 f → Cause.ok.shows t ∧ t.rxbuf = f ∧ DecodedFrom f t) ∧
      (∀ k buf, a = .ok k buf → k.val < 5 →
        Cause.ioerrShort.shows t ∧ t.ioCount.toNat = k.val ∧ t.ioCode = 0 ∧ t.rxbuf = s.rxbuf ∧ SameDecoded s t) ∧
      (∀ code, a = .err code →
        Cause.ioerrRead.shows t ∧ t.ioCode = code ∧ t.ioCount = 0 ∧ t.rxbuf = s.rxbuf ∧ SameDecoded s t) ∧
      t.crcAcc = s.crcAcc ∧ t.faults = s.faults

/-- R457, R458: XCHG whose write fails ends there: no wait, no read request, no decode. -/
def Obligations.XchgWriteErrorSkipsTheRead : Prop :=
  ∀ (s : State) (w : Word) (code : BitVec 16) (reached : Fin 6) (rest : List Input), s.busy = false →
    opcField w = 0x06 →
    s.inputs = .host (.write 0x00 4 w) :: .writeAnswered (.err code reached) :: rest →
    ∃ t, runSteps 2 s = .next t ∧ t.inputs = rest ∧ Ended t ∧ Cause.ioerrWrite.shows t ∧ t.ioCode = code ∧
      t.chanReqs = s.chanReqs ++ [.write t.txbuf] ∧ t.rxbuf = s.rxbuf ∧ SameDecoded s t

/-- R454, R462, R469: if no reset comes, a transaction in any phase ends under `ChannelAnswers` and the fairness of the
WAIT-end step, whatever the host does meanwhile, and only then. SEND needs no more than an answer to its write, and
XCHG whose write fails no more than that answer. -/
def Obligations.AnsweredTransactionEnds : Prop :=
  ∀ s : State, Inv s → s.busy = true → s.inputs.all (fun i => !i.isReset) = true →
    (EndsInTime s ↔ channelAnswers s = true ∧ waitEnds s = true) ∧
    (s.phase = .tx → s.curop = some .send → (∃ a, .writeAnswered a ∈ s.inputs) → EndsInTime s) ∧
    (∀ pre code reached post, s.phase = .tx → s.inputs = pre ++ .writeAnswered (.err code reached) :: post →
      (∀ a, .writeAnswered a ∉ pre) → EndsInTime s)

/-- R454 (T9): a request that is never answered leaves the transaction in its phase with BUSY = 1, however many other
steps are taken, unless reset comes. -/
def Obligations.UnansweredRequestStaysBusy : Prop :=
  ∀ (s : State) (k : Nat), s.busy = true → s.phase = .tx ∨ s.phase = .rx →
    s.inputs.all (fun i => !i.isReset && !i.isAnswer) = true →
    ∃ t, runSteps k s = .next t ∧ t.busy = true ∧ t.phase = s.phase ∧ t.done = s.done

/-- R202, R210: host reads placed anywhere among the other steps change nothing but what the host has seen. -/
def Obligations.ReadsDoNotDisturbARun : Prop :=
  ∀ s : State,
    ∃ t u, runSteps s.inputs.length s = .next t ∧
      runSteps (s.inputs.filter (fun i => !i.isRead)).length
        { s with inputs := s.inputs.filter (fun i => !i.isRead) } = .next u ∧
      { t with obs := [] } = { u with obs := [] }

/-! ## Reset and the whole machine -/

/-- R700: after a reset, from any state, every register reads its reset value and the hidden state is at its own; the
model's launch state is such a state too. -/
def Obligations.ResetSetsEveryRegister : Prop :=
  ∀ (s : State) (reached : Fin 6) (rest : List Input), s.inputs = .reset reached :: rest →
    ∃ t, step s = .next t ∧
      ∀ x : State, x = t ∨ x = State.reset →
        (∀ r : Reg, readReg r x = if r = .replyDelay then 0x000F4240 else 0) ∧
        x.phase = .idle ∧ x.busy = false ∧ x.timer = 0 ∧ x.curop = none ∧ x.faults = []

/-- R701: reset abandons a transaction in any phase: no completion, no request; an interrupted write leaves some prefix
on the wire; the agents outside keep what is theirs. A later answer to the dropped request has no effect. -/
def Obligations.ResetAbandonsATransaction : Prop :=
  ∀ (s : State) (reached : Fin 6) (i : Input) (rest : List Input), s.inputs = .reset reached :: i :: rest →
    step s = .next
      { State.reset with
        inputs := i :: rest, prog := s.prog, hpc := s.hpc, obs := s.obs, chanReqs := s.chanReqs
        wire := s.wire ++ if s.phase = .tx then s.txbuf.bytes.take reached.val else [] } ∧
    ((∃ a, i = .writeAnswered a) ∨ (∃ a, i = .readAnswered a) →
      runSteps 2 s = andThen (step s) (fun t => { t with inputs := rest }))

/-- R620: no step removes an entry of the FAULT record, but for reset; a step adds at most one entry (R630), and a step
that adds one changes nothing else. -/
def Obligations.FaultRecordIsSticky : Prop :=
  ∀ s t : State, s.resetsNext = false → step s = .next t →
    t.faults = s.faults ∨
    ∃ f, t = { s with inputs := s.inputs.tail, faults := s.faults ++ [f] }

/-- R620: a state with a non-empty FAULT record is never final, and no run without a reset leads from it to a final
state. -/
def Obligations.FaultedRunIsNeverFinal : Prop :=
  ∀ (s t : State) (k : Nat), s.faults ≠ [] → s.inputs.all (fun i => !i.isReset) = true → runSteps k s = .next t →
    t.faults ≠ [] ∧ ¬Final t

/-- R113, R120: DECODED, once set, is cleared by nothing but reset. -/
def Obligations.DecodedIsClearedOnlyByReset : Prop :=
  ∀ s t : State, s.resetsNext = false → s.dDecoded = true → step s = .next t → t.dDecoded = true

/-- R102, R109, R110: but for reset, the decoded packet changes only to the decoding of what RXBUF then holds, and TXBUF
only to the frame of the packet registers. -/
def Obligations.ResultsComeFromTheirSources : Prop :=
  ∀ s t : State, s.resetsNext = false → step s = .next t →
    (SameDecoded s t ∨ DecodedFrom t.rxbuf t) ∧
    (t.txbuf = s.txbuf ∨ t.txbuf = pack t.pktAddr t.pktPos t.pktKind t.pktStatus)

/-- R641: once a command has completed, but for reset, its outcome stays as it is until the next command is accepted. -/
def Obligations.OutcomeStaysUntilTheNextCommand : Prop :=
  ∀ s t : State, Inv s → s.resetsNext = false → s.done = true → step s = .next t →
    SameOutcome s t ∨
    (s.busy = false ∧ ∃ (w : Word) (u : State), issueCommand w { s with inputs := s.inputs.tail } = .next u ∧
      t = { u with hpc := t.hpc })

/-- R720: while BUSY = 1 a step of the host changes nothing in the block: only the FAULT record, what the host has seen
and its place in its program. -/
def Obligations.HostChangesNothingWhileBusy : Prop :=
  ∀ (s t : State) (i : Input) (rest : List Input), s.busy = true → i.isHost = true → s.inputs = i :: rest →
    step s = .next t →
    t = { s with inputs := rest, faults := t.faults, obs := t.obs, hpc := t.hpc }

/-- R614: a completed command shows exactly one outcome, and one that its opcode can have. -/
def Obligations.CompletedCommandHasOneCause : Prop :=
  ∀ s : State, Inv s → s.done = true →
    (∃ c : Cause, c.shows s ∧ c.opcodes s.lastop) ∧ (∀ c d : Cause, c.shows s → d.shows s → c = d)

/-- No step stops (R332, R400, R600, R620, R702): every state has a next state. -/
def Obligations.EveryStepAnswersANextState : Prop :=
  ∀ s : State, ∃ t, step s = .next t

/-- The launch state meets the invariant. -/
def Obligations.ResetMeetsTheInvariant : Prop := Inv State.reset

/-- Every step keeps the invariant (R101, R105, R113, R115, R130, R214, R460, R461, R611, R613). -/
def Obligations.EveryStepKeepsTheInvariant : Prop :=
  ∀ s t : State, Inv s → step s = .next t → Inv t
end

