-- ==== Sys2Proof/Laws/State.lean ====
section
/-! SUPPORT. What each named update of the state leaves in each field, every lemma true by rfl, so that no later proof
unfolds a record update. -/

namespace Sys2Proof.Machine

@[simp] theorem accept_busy (opc : Byte) (s : State) : (accept opc s).busy = s.busy := rfl
@[simp] theorem accept_done (opc : Byte) (s : State) : (accept opc s).done = false := rfl
@[simp] theorem accept_ioerr (opc : Byte) (s : State) : (accept opc s).ioerr = false := rfl
@[simp] theorem accept_cmderr (opc : Byte) (s : State) : (accept opc s).cmderr = false := rfl
@[simp] theorem accept_phase (opc : Byte) (s : State) : (accept opc s).phase = s.phase := rfl
@[simp] theorem accept_lastop (opc : Byte) (s : State) : (accept opc s).lastop = opc := rfl
@[simp] theorem accept_pktAddr (opc : Byte) (s : State) : (accept opc s).pktAddr = s.pktAddr := rfl
@[simp] theorem accept_pktPos (opc : Byte) (s : State) : (accept opc s).pktPos = s.pktPos := rfl
@[simp] theorem accept_pktKind (opc : Byte) (s : State) : (accept opc s).pktKind = s.pktKind := rfl
@[simp] theorem accept_pktStatus (opc : Byte) (s : State) : (accept opc s).pktStatus = s.pktStatus := rfl
@[simp] theorem accept_txbuf (opc : Byte) (s : State) : (accept opc s).txbuf = s.txbuf := rfl
@[simp] theorem accept_rxbuf (opc : Byte) (s : State) : (accept opc s).rxbuf = s.rxbuf := rfl
@[simp] theorem accept_dAddr (opc : Byte) (s : State) : (accept opc s).dAddr = s.dAddr := rfl
@[simp] theorem accept_dPos (opc : Byte) (s : State) : (accept opc s).dPos = s.dPos := rfl
@[simp] theorem accept_dKind (opc : Byte) (s : State) : (accept opc s).dKind = s.dKind := rfl
@[simp] theorem accept_dStatus (opc : Byte) (s : State) : (accept opc s).dStatus = s.dStatus := rfl
@[simp] theorem accept_dValid (opc : Byte) (s : State) : (accept opc s).dValid = s.dValid := rfl
@[simp] theorem accept_dSyncOk (opc : Byte) (s : State) : (accept opc s).dSyncOk = s.dSyncOk := rfl
@[simp] theorem accept_dCrcOk (opc : Byte) (s : State) : (accept opc s).dCrcOk = s.dCrcOk := rfl
@[simp] theorem accept_dDecoded (opc : Byte) (s : State) : (accept opc s).dDecoded = s.dDecoded := rfl
@[simp] theorem accept_crcAcc (opc : Byte) (s : State) : (accept opc s).crcAcc = s.crcAcc := rfl
@[simp] theorem accept_ioSrc (opc : Byte) (s : State) : (accept opc s).ioSrc = .none := rfl
@[simp] theorem accept_ioCount (opc : Byte) (s : State) : (accept opc s).ioCount = 0 := rfl
@[simp] theorem accept_ioCode (opc : Byte) (s : State) : (accept opc s).ioCode = 0 := rfl
@[simp] theorem accept_replyDelay (opc : Byte) (s : State) : (accept opc s).replyDelay = s.replyDelay := rfl
@[simp] theorem accept_timer (opc : Byte) (s : State) : (accept opc s).timer = s.timer := rfl
@[simp] theorem accept_curop (opc : Byte) (s : State) : (accept opc s).curop = s.curop := rfl
@[simp] theorem accept_faults (opc : Byte) (s : State) : (accept opc s).faults = s.faults := rfl
@[simp] theorem accept_inputs (opc : Byte) (s : State) : (accept opc s).inputs = s.inputs := rfl
@[simp] theorem accept_prog (opc : Byte) (s : State) : (accept opc s).prog = s.prog := rfl
@[simp] theorem accept_hpc (opc : Byte) (s : State) : (accept opc s).hpc = s.hpc := rfl
@[simp] theorem accept_obs (opc : Byte) (s : State) : (accept opc s).obs = s.obs := rfl
@[simp] theorem accept_chanReqs (opc : Byte) (s : State) : (accept opc s).chanReqs = s.chanReqs := rfl
@[simp] theorem accept_wire (opc : Byte) (s : State) : (accept opc s).wire = s.wire := rfl

@[simp] theorem setDone_busy (s : State) : (setDone s).busy = s.busy := rfl
@[simp] theorem setDone_done (s : State) : (setDone s).done = true := rfl
@[simp] theorem setDone_ioerr (s : State) : (setDone s).ioerr = s.ioerr := rfl
@[simp] theorem setDone_cmderr (s : State) : (setDone s).cmderr = s.cmderr := rfl
@[simp] theorem setDone_phase (s : State) : (setDone s).phase = s.phase := rfl
@[simp] theorem setDone_lastop (s : State) : (setDone s).lastop = s.lastop := rfl
@[simp] theorem setDone_pktAddr (s : State) : (setDone s).pktAddr = s.pktAddr := rfl
@[simp] theorem setDone_pktPos (s : State) : (setDone s).pktPos = s.pktPos := rfl
@[simp] theorem setDone_pktKind (s : State) : (setDone s).pktKind = s.pktKind := rfl
@[simp] theorem setDone_pktStatus (s : State) : (setDone s).pktStatus = s.pktStatus := rfl
@[simp] theorem setDone_txbuf (s : State) : (setDone s).txbuf = s.txbuf := rfl
@[simp] theorem setDone_rxbuf (s : State) : (setDone s).rxbuf = s.rxbuf := rfl
@[simp] theorem setDone_dAddr (s : State) : (setDone s).dAddr = s.dAddr := rfl
@[simp] theorem setDone_dPos (s : State) : (setDone s).dPos = s.dPos := rfl
@[simp] theorem setDone_dKind (s : State) : (setDone s).dKind = s.dKind := rfl
@[simp] theorem setDone_dStatus (s : State) : (setDone s).dStatus = s.dStatus := rfl
@[simp] theorem setDone_dValid (s : State) : (setDone s).dValid = s.dValid := rfl
@[simp] theorem setDone_dSyncOk (s : State) : (setDone s).dSyncOk = s.dSyncOk := rfl
@[simp] theorem setDone_dCrcOk (s : State) : (setDone s).dCrcOk = s.dCrcOk := rfl
@[simp] theorem setDone_dDecoded (s : State) : (setDone s).dDecoded = s.dDecoded := rfl
@[simp] theorem setDone_crcAcc (s : State) : (setDone s).crcAcc = s.crcAcc := rfl
@[simp] theorem setDone_ioSrc (s : State) : (setDone s).ioSrc = s.ioSrc := rfl
@[simp] theorem setDone_ioCount (s : State) : (setDone s).ioCount = s.ioCount := rfl
@[simp] theorem setDone_ioCode (s : State) : (setDone s).ioCode = s.ioCode := rfl
@[simp] theorem setDone_replyDelay (s : State) : (setDone s).replyDelay = s.replyDelay := rfl
@[simp] theorem setDone_timer (s : State) : (setDone s).timer = s.timer := rfl
@[simp] theorem setDone_curop (s : State) : (setDone s).curop = s.curop := rfl
@[simp] theorem setDone_faults (s : State) : (setDone s).faults = s.faults := rfl
@[simp] theorem setDone_inputs (s : State) : (setDone s).inputs = s.inputs := rfl
@[simp] theorem setDone_prog (s : State) : (setDone s).prog = s.prog := rfl
@[simp] theorem setDone_hpc (s : State) : (setDone s).hpc = s.hpc := rfl
@[simp] theorem setDone_obs (s : State) : (setDone s).obs = s.obs := rfl
@[simp] theorem setDone_chanReqs (s : State) : (setDone s).chanReqs = s.chanReqs := rfl
@[simp] theorem setDone_wire (s : State) : (setDone s).wire = s.wire := rfl

@[simp] theorem setCmderr_busy (s : State) : (setCmderr s).busy = s.busy := rfl
@[simp] theorem setCmderr_done (s : State) : (setCmderr s).done = true := rfl
@[simp] theorem setCmderr_ioerr (s : State) : (setCmderr s).ioerr = s.ioerr := rfl
@[simp] theorem setCmderr_cmderr (s : State) : (setCmderr s).cmderr = true := rfl
@[simp] theorem setCmderr_phase (s : State) : (setCmderr s).phase = s.phase := rfl
@[simp] theorem setCmderr_lastop (s : State) : (setCmderr s).lastop = s.lastop := rfl
@[simp] theorem setCmderr_pktAddr (s : State) : (setCmderr s).pktAddr = s.pktAddr := rfl
@[simp] theorem setCmderr_pktPos (s : State) : (setCmderr s).pktPos = s.pktPos := rfl
@[simp] theorem setCmderr_pktKind (s : State) : (setCmderr s).pktKind = s.pktKind := rfl
@[simp] theorem setCmderr_pktStatus (s : State) : (setCmderr s).pktStatus = s.pktStatus := rfl
@[simp] theorem setCmderr_txbuf (s : State) : (setCmderr s).txbuf = s.txbuf := rfl
@[simp] theorem setCmderr_rxbuf (s : State) : (setCmderr s).rxbuf = s.rxbuf := rfl
@[simp] theorem setCmderr_dAddr (s : State) : (setCmderr s).dAddr = s.dAddr := rfl
@[simp] theorem setCmderr_dPos (s : State) : (setCmderr s).dPos = s.dPos := rfl
@[simp] theorem setCmderr_dKind (s : State) : (setCmderr s).dKind = s.dKind := rfl
@[simp] theorem setCmderr_dStatus (s : State) : (setCmderr s).dStatus = s.dStatus := rfl
@[simp] theorem setCmderr_dValid (s : State) : (setCmderr s).dValid = s.dValid := rfl
@[simp] theorem setCmderr_dSyncOk (s : State) : (setCmderr s).dSyncOk = s.dSyncOk := rfl
@[simp] theorem setCmderr_dCrcOk (s : State) : (setCmderr s).dCrcOk = s.dCrcOk := rfl
@[simp] theorem setCmderr_dDecoded (s : State) : (setCmderr s).dDecoded = s.dDecoded := rfl
@[simp] theorem setCmderr_crcAcc (s : State) : (setCmderr s).crcAcc = s.crcAcc := rfl
@[simp] theorem setCmderr_ioSrc (s : State) : (setCmderr s).ioSrc = s.ioSrc := rfl
@[simp] theorem setCmderr_ioCount (s : State) : (setCmderr s).ioCount = s.ioCount := rfl
@[simp] theorem setCmderr_ioCode (s : State) : (setCmderr s).ioCode = s.ioCode := rfl
@[simp] theorem setCmderr_replyDelay (s : State) : (setCmderr s).replyDelay = s.replyDelay := rfl
@[simp] theorem setCmderr_timer (s : State) : (setCmderr s).timer = s.timer := rfl
@[simp] theorem setCmderr_curop (s : State) : (setCmderr s).curop = s.curop := rfl
@[simp] theorem setCmderr_faults (s : State) : (setCmderr s).faults = s.faults := rfl
@[simp] theorem setCmderr_inputs (s : State) : (setCmderr s).inputs = s.inputs := rfl
@[simp] theorem setCmderr_prog (s : State) : (setCmderr s).prog = s.prog := rfl
@[simp] theorem setCmderr_hpc (s : State) : (setCmderr s).hpc = s.hpc := rfl
@[simp] theorem setCmderr_obs (s : State) : (setCmderr s).obs = s.obs := rfl
@[simp] theorem setCmderr_chanReqs (s : State) : (setCmderr s).chanReqs = s.chanReqs := rfl
@[simp] theorem setCmderr_wire (s : State) : (setCmderr s).wire = s.wire := rfl

@[simp] theorem recordIoError_busy (src : IoSrc) (code : BitVec 16) (count : BitVec 3) (s : State) : (recordIoError src code count s).busy = s.busy := rfl
@[simp] theorem recordIoError_done (src : IoSrc) (code : BitVec 16) (count : BitVec 3) (s : State) : (recordIoError src code count s).done = s.done := rfl
@[simp] theorem recordIoError_ioerr (src : IoSrc) (code : BitVec 16) (count : BitVec 3) (s : State) : (recordIoError src code count s).ioerr = true := rfl
@[simp] theorem recordIoError_cmderr (src : IoSrc) (code : BitVec 16) (count : BitVec 3) (s : State) : (recordIoError src code count s).cmderr = s.cmderr := rfl
@[simp] theorem recordIoError_phase (src : IoSrc) (code : BitVec 16) (count : BitVec 3) (s : State) : (recordIoError src code count s).phase = s.phase := rfl
@[simp] theorem recordIoError_lastop (src : IoSrc) (code : BitVec 16) (count : BitVec 3) (s : State) : (recordIoError src code count s).lastop = s.lastop := rfl
@[simp] theorem recordIoError_pktAddr (src : IoSrc) (code : BitVec 16) (count : BitVec 3) (s : State) : (recordIoError src code count s).pktAddr = s.pktAddr := rfl
@[simp] theorem recordIoError_pktPos (src : IoSrc) (code : BitVec 16) (count : BitVec 3) (s : State) : (recordIoError src code count s).pktPos = s.pktPos := rfl
@[simp] theorem recordIoError_pktKind (src : IoSrc) (code : BitVec 16) (count : BitVec 3) (s : State) : (recordIoError src code count s).pktKind = s.pktKind := rfl
@[simp] theorem recordIoError_pktStatus (src : IoSrc) (code : BitVec 16) (count : BitVec 3) (s : State) : (recordIoError src code count s).pktStatus = s.pktStatus := rfl
@[simp] theorem recordIoError_txbuf (src : IoSrc) (code : BitVec 16) (count : BitVec 3) (s : State) : (recordIoError src code count s).txbuf = s.txbuf := rfl
@[simp] theorem recordIoError_rxbuf (src : IoSrc) (code : BitVec 16) (count : BitVec 3) (s : State) : (recordIoError src code count s).rxbuf = s.rxbuf := rfl
@[simp] theorem recordIoError_dAddr (src : IoSrc) (code : BitVec 16) (count : BitVec 3) (s : State) : (recordIoError src code count s).dAddr = s.dAddr := rfl
@[simp] theorem recordIoError_dPos (src : IoSrc) (code : BitVec 16) (count : BitVec 3) (s : State) : (recordIoError src code count s).dPos = s.dPos := rfl
@[simp] theorem recordIoError_dKind (src : IoSrc) (code : BitVec 16) (count : BitVec 3) (s : State) : (recordIoError src code count s).dKind = s.dKind := rfl
@[simp] theorem recordIoError_dStatus (src : IoSrc) (code : BitVec 16) (count : BitVec 3) (s : State) : (recordIoError src code count s).dStatus = s.dStatus := rfl
@[simp] theorem recordIoError_dValid (src : IoSrc) (code : BitVec 16) (count : BitVec 3) (s : State) : (recordIoError src code count s).dValid = s.dValid := rfl
@[simp] theorem recordIoError_dSyncOk (src : IoSrc) (code : BitVec 16) (count : BitVec 3) (s : State) : (recordIoError src code count s).dSyncOk = s.dSyncOk := rfl
@[simp] theorem recordIoError_dCrcOk (src : IoSrc) (code : BitVec 16) (count : BitVec 3) (s : State) : (recordIoError src code count s).dCrcOk = s.dCrcOk := rfl
@[simp] theorem recordIoError_dDecoded (src : IoSrc) (code : BitVec 16) (count : BitVec 3) (s : State) : (recordIoError src code count s).dDecoded = s.dDecoded := rfl
@[simp] theorem recordIoError_crcAcc (src : IoSrc) (code : BitVec 16) (count : BitVec 3) (s : State) : (recordIoError src code count s).crcAcc = s.crcAcc := rfl
@[simp] theorem recordIoError_ioSrc (src : IoSrc) (code : BitVec 16) (count : BitVec 3) (s : State) : (recordIoError src code count s).ioSrc = src := rfl
@[simp] theorem recordIoError_ioCount (src : IoSrc) (code : BitVec 16) (count : BitVec 3) (s : State) : (recordIoError src code count s).ioCount = count := rfl
@[simp] theorem recordIoError_ioCode (src : IoSrc) (code : BitVec 16) (count : BitVec 3) (s : State) : (recordIoError src code count s).ioCode = code := rfl
@[simp] theorem recordIoError_replyDelay (src : IoSrc) (code : BitVec 16) (count : BitVec 3) (s : State) : (recordIoError src code count s).replyDelay = s.replyDelay := rfl
@[simp] theorem recordIoError_timer (src : IoSrc) (code : BitVec 16) (count : BitVec 3) (s : State) : (recordIoError src code count s).timer = s.timer := rfl
@[simp] theorem recordIoError_curop (src : IoSrc) (code : BitVec 16) (count : BitVec 3) (s : State) : (recordIoError src code count s).curop = s.curop := rfl
@[simp] theorem recordIoError_faults (src : IoSrc) (code : BitVec 16) (count : BitVec 3) (s : State) : (recordIoError src code count s).faults = s.faults := rfl
@[simp] theorem recordIoError_inputs (src : IoSrc) (code : BitVec 16) (count : BitVec 3) (s : State) : (recordIoError src code count s).inputs = s.inputs := rfl
@[simp] theorem recordIoError_prog (src : IoSrc) (code : BitVec 16) (count : BitVec 3) (s : State) : (recordIoError src code count s).prog = s.prog := rfl
@[simp] theorem recordIoError_hpc (src : IoSrc) (code : BitVec 16) (count : BitVec 3) (s : State) : (recordIoError src code count s).hpc = s.hpc := rfl
@[simp] theorem recordIoError_obs (src : IoSrc) (code : BitVec 16) (count : BitVec 3) (s : State) : (recordIoError src code count s).obs = s.obs := rfl
@[simp] theorem recordIoError_chanReqs (src : IoSrc) (code : BitVec 16) (count : BitVec 3) (s : State) : (recordIoError src code count s).chanReqs = s.chanReqs := rfl
@[simp] theorem recordIoError_wire (src : IoSrc) (code : BitVec 16) (count : BitVec 3) (s : State) : (recordIoError src code count s).wire = s.wire := rfl

@[simp] theorem complete_busy (s : State) : (complete s).busy = false := rfl
@[simp] theorem complete_done (s : State) : (complete s).done = true := rfl
@[simp] theorem complete_ioerr (s : State) : (complete s).ioerr = s.ioerr := rfl
@[simp] theorem complete_cmderr (s : State) : (complete s).cmderr = s.cmderr := rfl
@[simp] theorem complete_phase (s : State) : (complete s).phase = .idle := rfl
@[simp] theorem complete_lastop (s : State) : (complete s).lastop = s.lastop := rfl
@[simp] theorem complete_pktAddr (s : State) : (complete s).pktAddr = s.pktAddr := rfl
@[simp] theorem complete_pktPos (s : State) : (complete s).pktPos = s.pktPos := rfl
@[simp] theorem complete_pktKind (s : State) : (complete s).pktKind = s.pktKind := rfl
@[simp] theorem complete_pktStatus (s : State) : (complete s).pktStatus = s.pktStatus := rfl
@[simp] theorem complete_txbuf (s : State) : (complete s).txbuf = s.txbuf := rfl
@[simp] theorem complete_rxbuf (s : State) : (complete s).rxbuf = s.rxbuf := rfl
@[simp] theorem complete_dAddr (s : State) : (complete s).dAddr = s.dAddr := rfl
@[simp] theorem complete_dPos (s : State) : (complete s).dPos = s.dPos := rfl
@[simp] theorem complete_dKind (s : State) : (complete s).dKind = s.dKind := rfl
@[simp] theorem complete_dStatus (s : State) : (complete s).dStatus = s.dStatus := rfl
@[simp] theorem complete_dValid (s : State) : (complete s).dValid = s.dValid := rfl
@[simp] theorem complete_dSyncOk (s : State) : (complete s).dSyncOk = s.dSyncOk := rfl
@[simp] theorem complete_dCrcOk (s : State) : (complete s).dCrcOk = s.dCrcOk := rfl
@[simp] theorem complete_dDecoded (s : State) : (complete s).dDecoded = s.dDecoded := rfl
@[simp] theorem complete_crcAcc (s : State) : (complete s).crcAcc = s.crcAcc := rfl
@[simp] theorem complete_ioSrc (s : State) : (complete s).ioSrc = s.ioSrc := rfl
@[simp] theorem complete_ioCount (s : State) : (complete s).ioCount = s.ioCount := rfl
@[simp] theorem complete_ioCode (s : State) : (complete s).ioCode = s.ioCode := rfl
@[simp] theorem complete_replyDelay (s : State) : (complete s).replyDelay = s.replyDelay := rfl
@[simp] theorem complete_timer (s : State) : (complete s).timer = s.timer := rfl
@[simp] theorem complete_curop (s : State) : (complete s).curop = s.curop := rfl
@[simp] theorem complete_faults (s : State) : (complete s).faults = s.faults := rfl
@[simp] theorem complete_inputs (s : State) : (complete s).inputs = s.inputs := rfl
@[simp] theorem complete_prog (s : State) : (complete s).prog = s.prog := rfl
@[simp] theorem complete_hpc (s : State) : (complete s).hpc = s.hpc := rfl
@[simp] theorem complete_obs (s : State) : (complete s).obs = s.obs := rfl
@[simp] theorem complete_chanReqs (s : State) : (complete s).chanReqs = s.chanReqs := rfl
@[simp] theorem complete_wire (s : State) : (complete s).wire = s.wire := rfl

@[simp] theorem encodeTx_busy (s : State) : (encodeTx s).busy = s.busy := rfl
@[simp] theorem encodeTx_done (s : State) : (encodeTx s).done = s.done := rfl
@[simp] theorem encodeTx_ioerr (s : State) : (encodeTx s).ioerr = s.ioerr := rfl
@[simp] theorem encodeTx_cmderr (s : State) : (encodeTx s).cmderr = s.cmderr := rfl
@[simp] theorem encodeTx_phase (s : State) : (encodeTx s).phase = s.phase := rfl
@[simp] theorem encodeTx_lastop (s : State) : (encodeTx s).lastop = s.lastop := rfl
@[simp] theorem encodeTx_pktAddr (s : State) : (encodeTx s).pktAddr = s.pktAddr := rfl
@[simp] theorem encodeTx_pktPos (s : State) : (encodeTx s).pktPos = s.pktPos := rfl
@[simp] theorem encodeTx_pktKind (s : State) : (encodeTx s).pktKind = s.pktKind := rfl
@[simp] theorem encodeTx_pktStatus (s : State) : (encodeTx s).pktStatus = s.pktStatus := rfl
@[simp] theorem encodeTx_txbuf (s : State) : (encodeTx s).txbuf = pack s.pktAddr s.pktPos s.pktKind s.pktStatus := rfl
@[simp] theorem encodeTx_rxbuf (s : State) : (encodeTx s).rxbuf = s.rxbuf := rfl
@[simp] theorem encodeTx_dAddr (s : State) : (encodeTx s).dAddr = s.dAddr := rfl
@[simp] theorem encodeTx_dPos (s : State) : (encodeTx s).dPos = s.dPos := rfl
@[simp] theorem encodeTx_dKind (s : State) : (encodeTx s).dKind = s.dKind := rfl
@[simp] theorem encodeTx_dStatus (s : State) : (encodeTx s).dStatus = s.dStatus := rfl
@[simp] theorem encodeTx_dValid (s : State) : (encodeTx s).dValid = s.dValid := rfl
@[simp] theorem encodeTx_dSyncOk (s : State) : (encodeTx s).dSyncOk = s.dSyncOk := rfl
@[simp] theorem encodeTx_dCrcOk (s : State) : (encodeTx s).dCrcOk = s.dCrcOk := rfl
@[simp] theorem encodeTx_dDecoded (s : State) : (encodeTx s).dDecoded = s.dDecoded := rfl
@[simp] theorem encodeTx_crcAcc (s : State) : (encodeTx s).crcAcc = s.crcAcc := rfl
@[simp] theorem encodeTx_ioSrc (s : State) : (encodeTx s).ioSrc = s.ioSrc := rfl
@[simp] theorem encodeTx_ioCount (s : State) : (encodeTx s).ioCount = s.ioCount := rfl
@[simp] theorem encodeTx_ioCode (s : State) : (encodeTx s).ioCode = s.ioCode := rfl
@[simp] theorem encodeTx_replyDelay (s : State) : (encodeTx s).replyDelay = s.replyDelay := rfl
@[simp] theorem encodeTx_timer (s : State) : (encodeTx s).timer = s.timer := rfl
@[simp] theorem encodeTx_curop (s : State) : (encodeTx s).curop = s.curop := rfl
@[simp] theorem encodeTx_faults (s : State) : (encodeTx s).faults = s.faults := rfl
@[simp] theorem encodeTx_inputs (s : State) : (encodeTx s).inputs = s.inputs := rfl
@[simp] theorem encodeTx_prog (s : State) : (encodeTx s).prog = s.prog := rfl
@[simp] theorem encodeTx_hpc (s : State) : (encodeTx s).hpc = s.hpc := rfl
@[simp] theorem encodeTx_obs (s : State) : (encodeTx s).obs = s.obs := rfl
@[simp] theorem encodeTx_chanReqs (s : State) : (encodeTx s).chanReqs = s.chanReqs := rfl
@[simp] theorem encodeTx_wire (s : State) : (encodeTx s).wire = s.wire := rfl

@[simp] theorem writeDecoded_busy (f : Frame) (s : State) : (writeDecoded f s).busy = s.busy := rfl
@[simp] theorem writeDecoded_done (f : Frame) (s : State) : (writeDecoded f s).done = s.done := rfl
@[simp] theorem writeDecoded_ioerr (f : Frame) (s : State) : (writeDecoded f s).ioerr = s.ioerr := rfl
@[simp] theorem writeDecoded_cmderr (f : Frame) (s : State) : (writeDecoded f s).cmderr = s.cmderr := rfl
@[simp] theorem writeDecoded_phase (f : Frame) (s : State) : (writeDecoded f s).phase = s.phase := rfl
@[simp] theorem writeDecoded_lastop (f : Frame) (s : State) : (writeDecoded f s).lastop = s.lastop := rfl
@[simp] theorem writeDecoded_pktAddr (f : Frame) (s : State) : (writeDecoded f s).pktAddr = s.pktAddr := rfl
@[simp] theorem writeDecoded_pktPos (f : Frame) (s : State) : (writeDecoded f s).pktPos = s.pktPos := rfl
@[simp] theorem writeDecoded_pktKind (f : Frame) (s : State) : (writeDecoded f s).pktKind = s.pktKind := rfl
@[simp] theorem writeDecoded_pktStatus (f : Frame) (s : State) : (writeDecoded f s).pktStatus = s.pktStatus := rfl
@[simp] theorem writeDecoded_txbuf (f : Frame) (s : State) : (writeDecoded f s).txbuf = s.txbuf := rfl
@[simp] theorem writeDecoded_rxbuf (f : Frame) (s : State) : (writeDecoded f s).rxbuf = s.rxbuf := rfl
@[simp] theorem writeDecoded_dAddr (f : Frame) (s : State) : (writeDecoded f s).dAddr = (unpack f).address := rfl
@[simp] theorem writeDecoded_dPos (f : Frame) (s : State) : (writeDecoded f s).dPos = (unpack f).position := rfl
@[simp] theorem writeDecoded_dKind (f : Frame) (s : State) : (writeDecoded f s).dKind = (unpack f).kind := rfl
@[simp] theorem writeDecoded_dStatus (f : Frame) (s : State) : (writeDecoded f s).dStatus = (unpack f).status := rfl
@[simp] theorem writeDecoded_dValid (f : Frame) (s : State) : (writeDecoded f s).dValid = (unpack f).valid := rfl
@[simp] theorem writeDecoded_dSyncOk (f : Frame) (s : State) : (writeDecoded f s).dSyncOk = (unpack f).syncOk := rfl
@[simp] theorem writeDecoded_dCrcOk (f : Frame) (s : State) : (writeDecoded f s).dCrcOk = (unpack f).crcOk := rfl
@[simp] theorem writeDecoded_dDecoded (f : Frame) (s : State) : (writeDecoded f s).dDecoded = true := rfl
@[simp] theorem writeDecoded_crcAcc (f : Frame) (s : State) : (writeDecoded f s).crcAcc = s.crcAcc := rfl
@[simp] theorem writeDecoded_ioSrc (f : Frame) (s : State) : (writeDecoded f s).ioSrc = s.ioSrc := rfl
@[simp] theorem writeDecoded_ioCount (f : Frame) (s : State) : (writeDecoded f s).ioCount = s.ioCount := rfl
@[simp] theorem writeDecoded_ioCode (f : Frame) (s : State) : (writeDecoded f s).ioCode = s.ioCode := rfl
@[simp] theorem writeDecoded_replyDelay (f : Frame) (s : State) : (writeDecoded f s).replyDelay = s.replyDelay := rfl
@[simp] theorem writeDecoded_timer (f : Frame) (s : State) : (writeDecoded f s).timer = s.timer := rfl
@[simp] theorem writeDecoded_curop (f : Frame) (s : State) : (writeDecoded f s).curop = s.curop := rfl
@[simp] theorem writeDecoded_faults (f : Frame) (s : State) : (writeDecoded f s).faults = s.faults := rfl
@[simp] theorem writeDecoded_inputs (f : Frame) (s : State) : (writeDecoded f s).inputs = s.inputs := rfl
@[simp] theorem writeDecoded_prog (f : Frame) (s : State) : (writeDecoded f s).prog = s.prog := rfl
@[simp] theorem writeDecoded_hpc (f : Frame) (s : State) : (writeDecoded f s).hpc = s.hpc := rfl
@[simp] theorem writeDecoded_obs (f : Frame) (s : State) : (writeDecoded f s).obs = s.obs := rfl
@[simp] theorem writeDecoded_chanReqs (f : Frame) (s : State) : (writeDecoded f s).chanReqs = s.chanReqs := rfl
@[simp] theorem writeDecoded_wire (f : Frame) (s : State) : (writeDecoded f s).wire = s.wire := rfl

@[simp] theorem acceptTransaction_busy (op : TransOp) (s : State) : (acceptTransaction op s).busy = true := rfl
@[simp] theorem acceptTransaction_done (op : TransOp) (s : State) : (acceptTransaction op s).done = s.done := rfl
@[simp] theorem acceptTransaction_ioerr (op : TransOp) (s : State) : (acceptTransaction op s).ioerr = s.ioerr := rfl
@[simp] theorem acceptTransaction_cmderr (op : TransOp) (s : State) : (acceptTransaction op s).cmderr = s.cmderr := rfl
@[simp] theorem acceptTransaction_phase (op : TransOp) (s : State) : (acceptTransaction op s).phase = .tx := rfl
@[simp] theorem acceptTransaction_lastop (op : TransOp) (s : State) : (acceptTransaction op s).lastop = s.lastop := rfl
@[simp] theorem acceptTransaction_pktAddr (op : TransOp) (s : State) : (acceptTransaction op s).pktAddr = s.pktAddr := rfl
@[simp] theorem acceptTransaction_pktPos (op : TransOp) (s : State) : (acceptTransaction op s).pktPos = s.pktPos := rfl
@[simp] theorem acceptTransaction_pktKind (op : TransOp) (s : State) : (acceptTransaction op s).pktKind = s.pktKind := rfl
@[simp] theorem acceptTransaction_pktStatus (op : TransOp) (s : State) : (acceptTransaction op s).pktStatus = s.pktStatus := rfl
@[simp] theorem acceptTransaction_txbuf (op : TransOp) (s : State) : (acceptTransaction op s).txbuf = pack s.pktAddr s.pktPos s.pktKind s.pktStatus := rfl
@[simp] theorem acceptTransaction_rxbuf (op : TransOp) (s : State) : (acceptTransaction op s).rxbuf = s.rxbuf := rfl
@[simp] theorem acceptTransaction_dAddr (op : TransOp) (s : State) : (acceptTransaction op s).dAddr = s.dAddr := rfl
@[simp] theorem acceptTransaction_dPos (op : TransOp) (s : State) : (acceptTransaction op s).dPos = s.dPos := rfl
@[simp] theorem acceptTransaction_dKind (op : TransOp) (s : State) : (acceptTransaction op s).dKind = s.dKind := rfl
@[simp] theorem acceptTransaction_dStatus (op : TransOp) (s : State) : (acceptTransaction op s).dStatus = s.dStatus := rfl
@[simp] theorem acceptTransaction_dValid (op : TransOp) (s : State) : (acceptTransaction op s).dValid = s.dValid := rfl
@[simp] theorem acceptTransaction_dSyncOk (op : TransOp) (s : State) : (acceptTransaction op s).dSyncOk = s.dSyncOk := rfl
@[simp] theorem acceptTransaction_dCrcOk (op : TransOp) (s : State) : (acceptTransaction op s).dCrcOk = s.dCrcOk := rfl
@[simp] theorem acceptTransaction_dDecoded (op : TransOp) (s : State) : (acceptTransaction op s).dDecoded = s.dDecoded := rfl
@[simp] theorem acceptTransaction_crcAcc (op : TransOp) (s : State) : (acceptTransaction op s).crcAcc = s.crcAcc := rfl
@[simp] theorem acceptTransaction_ioSrc (op : TransOp) (s : State) : (acceptTransaction op s).ioSrc = s.ioSrc := rfl
@[simp] theorem acceptTransaction_ioCount (op : TransOp) (s : State) : (acceptTransaction op s).ioCount = s.ioCount := rfl
@[simp] theorem acceptTransaction_ioCode (op : TransOp) (s : State) : (acceptTransaction op s).ioCode = s.ioCode := rfl
@[simp] theorem acceptTransaction_replyDelay (op : TransOp) (s : State) : (acceptTransaction op s).replyDelay = s.replyDelay := rfl
@[simp] theorem acceptTransaction_timer (op : TransOp) (s : State) : (acceptTransaction op s).timer = s.timer := rfl
@[simp] theorem acceptTransaction_curop (op : TransOp) (s : State) : (acceptTransaction op s).curop = some op := rfl
@[simp] theorem acceptTransaction_faults (op : TransOp) (s : State) : (acceptTransaction op s).faults = s.faults := rfl
@[simp] theorem acceptTransaction_inputs (op : TransOp) (s : State) : (acceptTransaction op s).inputs = s.inputs := rfl
@[simp] theorem acceptTransaction_prog (op : TransOp) (s : State) : (acceptTransaction op s).prog = s.prog := rfl
@[simp] theorem acceptTransaction_hpc (op : TransOp) (s : State) : (acceptTransaction op s).hpc = s.hpc := rfl
@[simp] theorem acceptTransaction_obs (op : TransOp) (s : State) : (acceptTransaction op s).obs = s.obs := rfl
@[simp] theorem acceptTransaction_chanReqs (op : TransOp) (s : State) : (acceptTransaction op s).chanReqs = s.chanReqs ++ [.write (pack s.pktAddr s.pktPos s.pktKind s.pktStatus)] := rfl
@[simp] theorem acceptTransaction_wire (op : TransOp) (s : State) : (acceptTransaction op s).wire = s.wire := rfl

@[simp] theorem raiseFault_busy (f : Fault) (s : State) : (raiseFault f s).busy = s.busy := rfl
@[simp] theorem raiseFault_done (f : Fault) (s : State) : (raiseFault f s).done = s.done := rfl
@[simp] theorem raiseFault_ioerr (f : Fault) (s : State) : (raiseFault f s).ioerr = s.ioerr := rfl
@[simp] theorem raiseFault_cmderr (f : Fault) (s : State) : (raiseFault f s).cmderr = s.cmderr := rfl
@[simp] theorem raiseFault_phase (f : Fault) (s : State) : (raiseFault f s).phase = s.phase := rfl
@[simp] theorem raiseFault_lastop (f : Fault) (s : State) : (raiseFault f s).lastop = s.lastop := rfl
@[simp] theorem raiseFault_pktAddr (f : Fault) (s : State) : (raiseFault f s).pktAddr = s.pktAddr := rfl
@[simp] theorem raiseFault_pktPos (f : Fault) (s : State) : (raiseFault f s).pktPos = s.pktPos := rfl
@[simp] theorem raiseFault_pktKind (f : Fault) (s : State) : (raiseFault f s).pktKind = s.pktKind := rfl
@[simp] theorem raiseFault_pktStatus (f : Fault) (s : State) : (raiseFault f s).pktStatus = s.pktStatus := rfl
@[simp] theorem raiseFault_txbuf (f : Fault) (s : State) : (raiseFault f s).txbuf = s.txbuf := rfl
@[simp] theorem raiseFault_rxbuf (f : Fault) (s : State) : (raiseFault f s).rxbuf = s.rxbuf := rfl
@[simp] theorem raiseFault_dAddr (f : Fault) (s : State) : (raiseFault f s).dAddr = s.dAddr := rfl
@[simp] theorem raiseFault_dPos (f : Fault) (s : State) : (raiseFault f s).dPos = s.dPos := rfl
@[simp] theorem raiseFault_dKind (f : Fault) (s : State) : (raiseFault f s).dKind = s.dKind := rfl
@[simp] theorem raiseFault_dStatus (f : Fault) (s : State) : (raiseFault f s).dStatus = s.dStatus := rfl
@[simp] theorem raiseFault_dValid (f : Fault) (s : State) : (raiseFault f s).dValid = s.dValid := rfl
@[simp] theorem raiseFault_dSyncOk (f : Fault) (s : State) : (raiseFault f s).dSyncOk = s.dSyncOk := rfl
@[simp] theorem raiseFault_dCrcOk (f : Fault) (s : State) : (raiseFault f s).dCrcOk = s.dCrcOk := rfl
@[simp] theorem raiseFault_dDecoded (f : Fault) (s : State) : (raiseFault f s).dDecoded = s.dDecoded := rfl
@[simp] theorem raiseFault_crcAcc (f : Fault) (s : State) : (raiseFault f s).crcAcc = s.crcAcc := rfl
@[simp] theorem raiseFault_ioSrc (f : Fault) (s : State) : (raiseFault f s).ioSrc = s.ioSrc := rfl
@[simp] theorem raiseFault_ioCount (f : Fault) (s : State) : (raiseFault f s).ioCount = s.ioCount := rfl
@[simp] theorem raiseFault_ioCode (f : Fault) (s : State) : (raiseFault f s).ioCode = s.ioCode := rfl
@[simp] theorem raiseFault_replyDelay (f : Fault) (s : State) : (raiseFault f s).replyDelay = s.replyDelay := rfl
@[simp] theorem raiseFault_timer (f : Fault) (s : State) : (raiseFault f s).timer = s.timer := rfl
@[simp] theorem raiseFault_curop (f : Fault) (s : State) : (raiseFault f s).curop = s.curop := rfl
@[simp] theorem raiseFault_faults (f : Fault) (s : State) : (raiseFault f s).faults = s.faults ++ [f] := rfl
@[simp] theorem raiseFault_inputs (f : Fault) (s : State) : (raiseFault f s).inputs = s.inputs := rfl
@[simp] theorem raiseFault_prog (f : Fault) (s : State) : (raiseFault f s).prog = s.prog := rfl
@[simp] theorem raiseFault_hpc (f : Fault) (s : State) : (raiseFault f s).hpc = s.hpc := rfl
@[simp] theorem raiseFault_obs (f : Fault) (s : State) : (raiseFault f s).obs = s.obs := rfl
@[simp] theorem raiseFault_chanReqs (f : Fault) (s : State) : (raiseFault f s).chanReqs = s.chanReqs := rfl
@[simp] theorem raiseFault_wire (f : Fault) (s : State) : (raiseFault f s).wire = s.wire := rfl

@[simp] theorem request_busy (r : ChanReq) (s : State) : (request r s).busy = s.busy := rfl
@[simp] theorem request_done (r : ChanReq) (s : State) : (request r s).done = s.done := rfl
@[simp] theorem request_ioerr (r : ChanReq) (s : State) : (request r s).ioerr = s.ioerr := rfl
@[simp] theorem request_cmderr (r : ChanReq) (s : State) : (request r s).cmderr = s.cmderr := rfl
@[simp] theorem request_phase (r : ChanReq) (s : State) : (request r s).phase = s.phase := rfl
@[simp] theorem request_lastop (r : ChanReq) (s : State) : (request r s).lastop = s.lastop := rfl
@[simp] theorem request_pktAddr (r : ChanReq) (s : State) : (request r s).pktAddr = s.pktAddr := rfl
@[simp] theorem request_pktPos (r : ChanReq) (s : State) : (request r s).pktPos = s.pktPos := rfl
@[simp] theorem request_pktKind (r : ChanReq) (s : State) : (request r s).pktKind = s.pktKind := rfl
@[simp] theorem request_pktStatus (r : ChanReq) (s : State) : (request r s).pktStatus = s.pktStatus := rfl
@[simp] theorem request_txbuf (r : ChanReq) (s : State) : (request r s).txbuf = s.txbuf := rfl
@[simp] theorem request_rxbuf (r : ChanReq) (s : State) : (request r s).rxbuf = s.rxbuf := rfl
@[simp] theorem request_dAddr (r : ChanReq) (s : State) : (request r s).dAddr = s.dAddr := rfl
@[simp] theorem request_dPos (r : ChanReq) (s : State) : (request r s).dPos = s.dPos := rfl
@[simp] theorem request_dKind (r : ChanReq) (s : State) : (request r s).dKind = s.dKind := rfl
@[simp] theorem request_dStatus (r : ChanReq) (s : State) : (request r s).dStatus = s.dStatus := rfl
@[simp] theorem request_dValid (r : ChanReq) (s : State) : (request r s).dValid = s.dValid := rfl
@[simp] theorem request_dSyncOk (r : ChanReq) (s : State) : (request r s).dSyncOk = s.dSyncOk := rfl
@[simp] theorem request_dCrcOk (r : ChanReq) (s : State) : (request r s).dCrcOk = s.dCrcOk := rfl
@[simp] theorem request_dDecoded (r : ChanReq) (s : State) : (request r s).dDecoded = s.dDecoded := rfl
@[simp] theorem request_crcAcc (r : ChanReq) (s : State) : (request r s).crcAcc = s.crcAcc := rfl
@[simp] theorem request_ioSrc (r : ChanReq) (s : State) : (request r s).ioSrc = s.ioSrc := rfl
@[simp] theorem request_ioCount (r : ChanReq) (s : State) : (request r s).ioCount = s.ioCount := rfl
@[simp] theorem request_ioCode (r : ChanReq) (s : State) : (request r s).ioCode = s.ioCode := rfl
@[simp] theorem request_replyDelay (r : ChanReq) (s : State) : (request r s).replyDelay = s.replyDelay := rfl
@[simp] theorem request_timer (r : ChanReq) (s : State) : (request r s).timer = s.timer := rfl
@[simp] theorem request_curop (r : ChanReq) (s : State) : (request r s).curop = s.curop := rfl
@[simp] theorem request_faults (r : ChanReq) (s : State) : (request r s).faults = s.faults := rfl
@[simp] theorem request_inputs (r : ChanReq) (s : State) : (request r s).inputs = s.inputs := rfl
@[simp] theorem request_prog (r : ChanReq) (s : State) : (request r s).prog = s.prog := rfl
@[simp] theorem request_hpc (r : ChanReq) (s : State) : (request r s).hpc = s.hpc := rfl
@[simp] theorem request_obs (r : ChanReq) (s : State) : (request r s).obs = s.obs := rfl
@[simp] theorem request_chanReqs (r : ChanReq) (s : State) : (request r s).chanReqs = s.chanReqs ++ [r] := rfl
@[simp] theorem request_wire (r : ChanReq) (s : State) : (request r s).wire = s.wire := rfl

@[simp] theorem sendPrefix_busy (k : Nat) (s : State) : (sendPrefix k s).busy = s.busy := rfl
@[simp] theorem sendPrefix_done (k : Nat) (s : State) : (sendPrefix k s).done = s.done := rfl
@[simp] theorem sendPrefix_ioerr (k : Nat) (s : State) : (sendPrefix k s).ioerr = s.ioerr := rfl
@[simp] theorem sendPrefix_cmderr (k : Nat) (s : State) : (sendPrefix k s).cmderr = s.cmderr := rfl
@[simp] theorem sendPrefix_phase (k : Nat) (s : State) : (sendPrefix k s).phase = s.phase := rfl
@[simp] theorem sendPrefix_lastop (k : Nat) (s : State) : (sendPrefix k s).lastop = s.lastop := rfl
@[simp] theorem sendPrefix_pktAddr (k : Nat) (s : State) : (sendPrefix k s).pktAddr = s.pktAddr := rfl
@[simp] theorem sendPrefix_pktPos (k : Nat) (s : State) : (sendPrefix k s).pktPos = s.pktPos := rfl
@[simp] theorem sendPrefix_pktKind (k : Nat) (s : State) : (sendPrefix k s).pktKind = s.pktKind := rfl
@[simp] theorem sendPrefix_pktStatus (k : Nat) (s : State) : (sendPrefix k s).pktStatus = s.pktStatus := rfl
@[simp] theorem sendPrefix_txbuf (k : Nat) (s : State) : (sendPrefix k s).txbuf = s.txbuf := rfl
@[simp] theorem sendPrefix_rxbuf (k : Nat) (s : State) : (sendPrefix k s).rxbuf = s.rxbuf := rfl
@[simp] theorem sendPrefix_dAddr (k : Nat) (s : State) : (sendPrefix k s).dAddr = s.dAddr := rfl
@[simp] theorem sendPrefix_dPos (k : Nat) (s : State) : (sendPrefix k s).dPos = s.dPos := rfl
@[simp] theorem sendPrefix_dKind (k : Nat) (s : State) : (sendPrefix k s).dKind = s.dKind := rfl
@[simp] theorem sendPrefix_dStatus (k : Nat) (s : State) : (sendPrefix k s).dStatus = s.dStatus := rfl
@[simp] theorem sendPrefix_dValid (k : Nat) (s : State) : (sendPrefix k s).dValid = s.dValid := rfl
@[simp] theorem sendPrefix_dSyncOk (k : Nat) (s : State) : (sendPrefix k s).dSyncOk = s.dSyncOk := rfl
@[simp] theorem sendPrefix_dCrcOk (k : Nat) (s : State) : (sendPrefix k s).dCrcOk = s.dCrcOk := rfl
@[simp] theorem sendPrefix_dDecoded (k : Nat) (s : State) : (sendPrefix k s).dDecoded = s.dDecoded := rfl
@[simp] theorem sendPrefix_crcAcc (k : Nat) (s : State) : (sendPrefix k s).crcAcc = s.crcAcc := rfl
@[simp] theorem sendPrefix_ioSrc (k : Nat) (s : State) : (sendPrefix k s).ioSrc = s.ioSrc := rfl
@[simp] theorem sendPrefix_ioCount (k : Nat) (s : State) : (sendPrefix k s).ioCount = s.ioCount := rfl
@[simp] theorem sendPrefix_ioCode (k : Nat) (s : State) : (sendPrefix k s).ioCode = s.ioCode := rfl
@[simp] theorem sendPrefix_replyDelay (k : Nat) (s : State) : (sendPrefix k s).replyDelay = s.replyDelay := rfl
@[simp] theorem sendPrefix_timer (k : Nat) (s : State) : (sendPrefix k s).timer = s.timer := rfl
@[simp] theorem sendPrefix_curop (k : Nat) (s : State) : (sendPrefix k s).curop = s.curop := rfl
@[simp] theorem sendPrefix_faults (k : Nat) (s : State) : (sendPrefix k s).faults = s.faults := rfl
@[simp] theorem sendPrefix_inputs (k : Nat) (s : State) : (sendPrefix k s).inputs = s.inputs := rfl
@[simp] theorem sendPrefix_prog (k : Nat) (s : State) : (sendPrefix k s).prog = s.prog := rfl
@[simp] theorem sendPrefix_hpc (k : Nat) (s : State) : (sendPrefix k s).hpc = s.hpc := rfl
@[simp] theorem sendPrefix_obs (k : Nat) (s : State) : (sendPrefix k s).obs = s.obs := rfl
@[simp] theorem sendPrefix_chanReqs (k : Nat) (s : State) : (sendPrefix k s).chanReqs = s.chanReqs := rfl
@[simp] theorem sendPrefix_wire (k : Nat) (s : State) : (sendPrefix k s).wire = s.wire ++ s.txbuf.bytes.take k := rfl

@[simp] theorem observe_busy (off : Nat) (v : Word) (s : State) : (observe off v s).busy = s.busy := rfl
@[simp] theorem observe_done (off : Nat) (v : Word) (s : State) : (observe off v s).done = s.done := rfl
@[simp] theorem observe_ioerr (off : Nat) (v : Word) (s : State) : (observe off v s).ioerr = s.ioerr := rfl
@[simp] theorem observe_cmderr (off : Nat) (v : Word) (s : State) : (observe off v s).cmderr = s.cmderr := rfl
@[simp] theorem observe_phase (off : Nat) (v : Word) (s : State) : (observe off v s).phase = s.phase := rfl
@[simp] theorem observe_lastop (off : Nat) (v : Word) (s : State) : (observe off v s).lastop = s.lastop := rfl
@[simp] theorem observe_pktAddr (off : Nat) (v : Word) (s : State) : (observe off v s).pktAddr = s.pktAddr := rfl
@[simp] theorem observe_pktPos (off : Nat) (v : Word) (s : State) : (observe off v s).pktPos = s.pktPos := rfl
@[simp] theorem observe_pktKind (off : Nat) (v : Word) (s : State) : (observe off v s).pktKind = s.pktKind := rfl
@[simp] theorem observe_pktStatus (off : Nat) (v : Word) (s : State) : (observe off v s).pktStatus = s.pktStatus := rfl
@[simp] theorem observe_txbuf (off : Nat) (v : Word) (s : State) : (observe off v s).txbuf = s.txbuf := rfl
@[simp] theorem observe_rxbuf (off : Nat) (v : Word) (s : State) : (observe off v s).rxbuf = s.rxbuf := rfl
@[simp] theorem observe_dAddr (off : Nat) (v : Word) (s : State) : (observe off v s).dAddr = s.dAddr := rfl
@[simp] theorem observe_dPos (off : Nat) (v : Word) (s : State) : (observe off v s).dPos = s.dPos := rfl
@[simp] theorem observe_dKind (off : Nat) (v : Word) (s : State) : (observe off v s).dKind = s.dKind := rfl
@[simp] theorem observe_dStatus (off : Nat) (v : Word) (s : State) : (observe off v s).dStatus = s.dStatus := rfl
@[simp] theorem observe_dValid (off : Nat) (v : Word) (s : State) : (observe off v s).dValid = s.dValid := rfl
@[simp] theorem observe_dSyncOk (off : Nat) (v : Word) (s : State) : (observe off v s).dSyncOk = s.dSyncOk := rfl
@[simp] theorem observe_dCrcOk (off : Nat) (v : Word) (s : State) : (observe off v s).dCrcOk = s.dCrcOk := rfl
@[simp] theorem observe_dDecoded (off : Nat) (v : Word) (s : State) : (observe off v s).dDecoded = s.dDecoded := rfl
@[simp] theorem observe_crcAcc (off : Nat) (v : Word) (s : State) : (observe off v s).crcAcc = s.crcAcc := rfl
@[simp] theorem observe_ioSrc (off : Nat) (v : Word) (s : State) : (observe off v s).ioSrc = s.ioSrc := rfl
@[simp] theorem observe_ioCount (off : Nat) (v : Word) (s : State) : (observe off v s).ioCount = s.ioCount := rfl
@[simp] theorem observe_ioCode (off : Nat) (v : Word) (s : State) : (observe off v s).ioCode = s.ioCode := rfl
@[simp] theorem observe_replyDelay (off : Nat) (v : Word) (s : State) : (observe off v s).replyDelay = s.replyDelay := rfl
@[simp] theorem observe_timer (off : Nat) (v : Word) (s : State) : (observe off v s).timer = s.timer := rfl
@[simp] theorem observe_curop (off : Nat) (v : Word) (s : State) : (observe off v s).curop = s.curop := rfl
@[simp] theorem observe_faults (off : Nat) (v : Word) (s : State) : (observe off v s).faults = s.faults := rfl
@[simp] theorem observe_inputs (off : Nat) (v : Word) (s : State) : (observe off v s).inputs = s.inputs := rfl
@[simp] theorem observe_prog (off : Nat) (v : Word) (s : State) : (observe off v s).prog = s.prog := rfl
@[simp] theorem observe_hpc (off : Nat) (v : Word) (s : State) : (observe off v s).hpc = s.hpc := rfl
@[simp] theorem observe_obs (off : Nat) (v : Word) (s : State) : (observe off v s).obs = s.obs ++ [⟨off, v⟩] := rfl
@[simp] theorem observe_chanReqs (off : Nat) (v : Word) (s : State) : (observe off v s).chanReqs = s.chanReqs := rfl
@[simp] theorem observe_wire (off : Nat) (v : Word) (s : State) : (observe off v s).wire = s.wire := rfl

@[simp] theorem advance_busy (s : State) : (advance s).busy = s.busy := rfl
@[simp] theorem advance_done (s : State) : (advance s).done = s.done := rfl
@[simp] theorem advance_ioerr (s : State) : (advance s).ioerr = s.ioerr := rfl
@[simp] theorem advance_cmderr (s : State) : (advance s).cmderr = s.cmderr := rfl
@[simp] theorem advance_phase (s : State) : (advance s).phase = s.phase := rfl
@[simp] theorem advance_lastop (s : State) : (advance s).lastop = s.lastop := rfl
@[simp] theorem advance_pktAddr (s : State) : (advance s).pktAddr = s.pktAddr := rfl
@[simp] theorem advance_pktPos (s : State) : (advance s).pktPos = s.pktPos := rfl
@[simp] theorem advance_pktKind (s : State) : (advance s).pktKind = s.pktKind := rfl
@[simp] theorem advance_pktStatus (s : State) : (advance s).pktStatus = s.pktStatus := rfl
@[simp] theorem advance_txbuf (s : State) : (advance s).txbuf = s.txbuf := rfl
@[simp] theorem advance_rxbuf (s : State) : (advance s).rxbuf = s.rxbuf := rfl
@[simp] theorem advance_dAddr (s : State) : (advance s).dAddr = s.dAddr := rfl
@[simp] theorem advance_dPos (s : State) : (advance s).dPos = s.dPos := rfl
@[simp] theorem advance_dKind (s : State) : (advance s).dKind = s.dKind := rfl
@[simp] theorem advance_dStatus (s : State) : (advance s).dStatus = s.dStatus := rfl
@[simp] theorem advance_dValid (s : State) : (advance s).dValid = s.dValid := rfl
@[simp] theorem advance_dSyncOk (s : State) : (advance s).dSyncOk = s.dSyncOk := rfl
@[simp] theorem advance_dCrcOk (s : State) : (advance s).dCrcOk = s.dCrcOk := rfl
@[simp] theorem advance_dDecoded (s : State) : (advance s).dDecoded = s.dDecoded := rfl
@[simp] theorem advance_crcAcc (s : State) : (advance s).crcAcc = s.crcAcc := rfl
@[simp] theorem advance_ioSrc (s : State) : (advance s).ioSrc = s.ioSrc := rfl
@[simp] theorem advance_ioCount (s : State) : (advance s).ioCount = s.ioCount := rfl
@[simp] theorem advance_ioCode (s : State) : (advance s).ioCode = s.ioCode := rfl
@[simp] theorem advance_replyDelay (s : State) : (advance s).replyDelay = s.replyDelay := rfl
@[simp] theorem advance_timer (s : State) : (advance s).timer = s.timer := rfl
@[simp] theorem advance_curop (s : State) : (advance s).curop = s.curop := rfl
@[simp] theorem advance_faults (s : State) : (advance s).faults = s.faults := rfl
@[simp] theorem advance_inputs (s : State) : (advance s).inputs = s.inputs := rfl
@[simp] theorem advance_prog (s : State) : (advance s).prog = s.prog := rfl
@[simp] theorem advance_hpc (s : State) : (advance s).hpc = s.hpc + 1 := rfl
@[simp] theorem advance_obs (s : State) : (advance s).obs = s.obs := rfl
@[simp] theorem advance_chanReqs (s : State) : (advance s).chanReqs = s.chanReqs := rfl
@[simp] theorem advance_wire (s : State) : (advance s).wire = s.wire := rfl

@[simp] theorem jumpTo_busy (l : Label) (s : State) : (jumpTo l s).busy = s.busy := rfl
@[simp] theorem jumpTo_done (l : Label) (s : State) : (jumpTo l s).done = s.done := rfl
@[simp] theorem jumpTo_ioerr (l : Label) (s : State) : (jumpTo l s).ioerr = s.ioerr := rfl
@[simp] theorem jumpTo_cmderr (l : Label) (s : State) : (jumpTo l s).cmderr = s.cmderr := rfl
@[simp] theorem jumpTo_phase (l : Label) (s : State) : (jumpTo l s).phase = s.phase := rfl
@[simp] theorem jumpTo_lastop (l : Label) (s : State) : (jumpTo l s).lastop = s.lastop := rfl
@[simp] theorem jumpTo_pktAddr (l : Label) (s : State) : (jumpTo l s).pktAddr = s.pktAddr := rfl
@[simp] theorem jumpTo_pktPos (l : Label) (s : State) : (jumpTo l s).pktPos = s.pktPos := rfl
@[simp] theorem jumpTo_pktKind (l : Label) (s : State) : (jumpTo l s).pktKind = s.pktKind := rfl
@[simp] theorem jumpTo_pktStatus (l : Label) (s : State) : (jumpTo l s).pktStatus = s.pktStatus := rfl
@[simp] theorem jumpTo_txbuf (l : Label) (s : State) : (jumpTo l s).txbuf = s.txbuf := rfl
@[simp] theorem jumpTo_rxbuf (l : Label) (s : State) : (jumpTo l s).rxbuf = s.rxbuf := rfl
@[simp] theorem jumpTo_dAddr (l : Label) (s : State) : (jumpTo l s).dAddr = s.dAddr := rfl
@[simp] theorem jumpTo_dPos (l : Label) (s : State) : (jumpTo l s).dPos = s.dPos := rfl
@[simp] theorem jumpTo_dKind (l : Label) (s : State) : (jumpTo l s).dKind = s.dKind := rfl
@[simp] theorem jumpTo_dStatus (l : Label) (s : State) : (jumpTo l s).dStatus = s.dStatus := rfl
@[simp] theorem jumpTo_dValid (l : Label) (s : State) : (jumpTo l s).dValid = s.dValid := rfl
@[simp] theorem jumpTo_dSyncOk (l : Label) (s : State) : (jumpTo l s).dSyncOk = s.dSyncOk := rfl
@[simp] theorem jumpTo_dCrcOk (l : Label) (s : State) : (jumpTo l s).dCrcOk = s.dCrcOk := rfl
@[simp] theorem jumpTo_dDecoded (l : Label) (s : State) : (jumpTo l s).dDecoded = s.dDecoded := rfl
@[simp] theorem jumpTo_crcAcc (l : Label) (s : State) : (jumpTo l s).crcAcc = s.crcAcc := rfl
@[simp] theorem jumpTo_ioSrc (l : Label) (s : State) : (jumpTo l s).ioSrc = s.ioSrc := rfl
@[simp] theorem jumpTo_ioCount (l : Label) (s : State) : (jumpTo l s).ioCount = s.ioCount := rfl
@[simp] theorem jumpTo_ioCode (l : Label) (s : State) : (jumpTo l s).ioCode = s.ioCode := rfl
@[simp] theorem jumpTo_replyDelay (l : Label) (s : State) : (jumpTo l s).replyDelay = s.replyDelay := rfl
@[simp] theorem jumpTo_timer (l : Label) (s : State) : (jumpTo l s).timer = s.timer := rfl
@[simp] theorem jumpTo_curop (l : Label) (s : State) : (jumpTo l s).curop = s.curop := rfl
@[simp] theorem jumpTo_faults (l : Label) (s : State) : (jumpTo l s).faults = s.faults := rfl
@[simp] theorem jumpTo_inputs (l : Label) (s : State) : (jumpTo l s).inputs = s.inputs := rfl
@[simp] theorem jumpTo_prog (l : Label) (s : State) : (jumpTo l s).prog = s.prog := rfl
@[simp] theorem jumpTo_hpc (l : Label) (s : State) : (jumpTo l s).hpc = labelIndex s.prog l := rfl
@[simp] theorem jumpTo_obs (l : Label) (s : State) : (jumpTo l s).obs = s.obs := rfl
@[simp] theorem jumpTo_chanReqs (l : Label) (s : State) : (jumpTo l s).chanReqs = s.chanReqs := rfl
@[simp] theorem jumpTo_wire (l : Label) (s : State) : (jumpTo l s).wire = s.wire := rfl

@[simp] theorem resetBlock_busy (s : State) : (resetBlock s).busy = State.reset.busy := rfl
@[simp] theorem resetBlock_done (s : State) : (resetBlock s).done = State.reset.done := rfl
@[simp] theorem resetBlock_ioerr (s : State) : (resetBlock s).ioerr = State.reset.ioerr := rfl
@[simp] theorem resetBlock_cmderr (s : State) : (resetBlock s).cmderr = State.reset.cmderr := rfl
@[simp] theorem resetBlock_phase (s : State) : (resetBlock s).phase = State.reset.phase := rfl
@[simp] theorem resetBlock_lastop (s : State) : (resetBlock s).lastop = State.reset.lastop := rfl
@[simp] theorem resetBlock_pktAddr (s : State) : (resetBlock s).pktAddr = State.reset.pktAddr := rfl
@[simp] theorem resetBlock_pktPos (s : State) : (resetBlock s).pktPos = State.reset.pktPos := rfl
@[simp] theorem resetBlock_pktKind (s : State) : (resetBlock s).pktKind = State.reset.pktKind := rfl
@[simp] theorem resetBlock_pktStatus (s : State) : (resetBlock s).pktStatus = State.reset.pktStatus := rfl
@[simp] theorem resetBlock_txbuf (s : State) : (resetBlock s).txbuf = State.reset.txbuf := rfl
@[simp] theorem resetBlock_rxbuf (s : State) : (resetBlock s).rxbuf = State.reset.rxbuf := rfl
@[simp] theorem resetBlock_dAddr (s : State) : (resetBlock s).dAddr = State.reset.dAddr := rfl
@[simp] theorem resetBlock_dPos (s : State) : (resetBlock s).dPos = State.reset.dPos := rfl
@[simp] theorem resetBlock_dKind (s : State) : (resetBlock s).dKind = State.reset.dKind := rfl
@[simp] theorem resetBlock_dStatus (s : State) : (resetBlock s).dStatus = State.reset.dStatus := rfl
@[simp] theorem resetBlock_dValid (s : State) : (resetBlock s).dValid = State.reset.dValid := rfl
@[simp] theorem resetBlock_dSyncOk (s : State) : (resetBlock s).dSyncOk = State.reset.dSyncOk := rfl
@[simp] theorem resetBlock_dCrcOk (s : State) : (resetBlock s).dCrcOk = State.reset.dCrcOk := rfl
@[simp] theorem resetBlock_dDecoded (s : State) : (resetBlock s).dDecoded = State.reset.dDecoded := rfl
@[simp] theorem resetBlock_crcAcc (s : State) : (resetBlock s).crcAcc = State.reset.crcAcc := rfl
@[simp] theorem resetBlock_ioSrc (s : State) : (resetBlock s).ioSrc = State.reset.ioSrc := rfl
@[simp] theorem resetBlock_ioCount (s : State) : (resetBlock s).ioCount = State.reset.ioCount := rfl
@[simp] theorem resetBlock_ioCode (s : State) : (resetBlock s).ioCode = State.reset.ioCode := rfl
@[simp] theorem resetBlock_replyDelay (s : State) : (resetBlock s).replyDelay = State.reset.replyDelay := rfl
@[simp] theorem resetBlock_timer (s : State) : (resetBlock s).timer = State.reset.timer := rfl
@[simp] theorem resetBlock_curop (s : State) : (resetBlock s).curop = State.reset.curop := rfl
@[simp] theorem resetBlock_faults (s : State) : (resetBlock s).faults = State.reset.faults := rfl
@[simp] theorem resetBlock_inputs (s : State) : (resetBlock s).inputs = s.inputs := rfl
@[simp] theorem resetBlock_prog (s : State) : (resetBlock s).prog = s.prog := rfl
@[simp] theorem resetBlock_hpc (s : State) : (resetBlock s).hpc = s.hpc := rfl
@[simp] theorem resetBlock_obs (s : State) : (resetBlock s).obs = s.obs := rfl
@[simp] theorem resetBlock_chanReqs (s : State) : (resetBlock s).chanReqs = s.chanReqs := rfl
@[simp] theorem resetBlock_wire (s : State) : (resetBlock s).wire = s.wire := rfl

end Sys2Proof.Machine
end

