-- ==== Sys2Proof/Laws/Ops.lean ====
section
/-! SUPPORT. For each shared operation, what it can do, said once: the register map, command issue, host accesses, host
statements, the sequencer steps, and one inversion lemma for the step of any input (`runInput_cases`). -/

namespace Sys2Proof.Machine

/-- The register map is consistent: the register at a register's offset is that register. -/
@[simp] theorem regAt_offset (r : Reg) : regAt r.offset = some r := by
  cases r with
  | txbuf i => revert i; decide
  | rxbuf i => revert i; decide
  | _ => rfl

/-- Every register's offset is admitted for a word access. -/
@[simp] theorem admitted_offset (r : Reg) : admitted r.offset Config.accessBytes = true := by
  cases r with
  | txbuf i => revert i; decide
  | rxbuf i => revert i; decide
  | _ => rfl

@[simp] theorem andThen_next (s : State) (f : State → State) : andThen (.next s) f = .next (f s) := rfl

/-- An operation after a step that answered a next state: the step answered one too. -/
theorem andThen_eq_next {o : Host.Outcome State Fault Refusal} {f : State → State} {t : State}
    (h : andThen o f = .next t) : ∃ u, o = .next u ∧ t = f u := by
  cases o with
  | next u => exact ⟨u, rfl, by simpa using h.symm⟩
  | fault r => cases h
  | refused r => cases h

/-- Command issue is the meaning of a command or the effect of a reserved opcode (R315). -/
theorem issueCommand_cases (v : Word) (s : State) :
    (∃ i, decodeWord v = .instr i ∧ issueCommand v s = exec i s) ∨
      (∃ opc, decodeWord v = .reserved opc ∧ issueCommand v s = .next (reservedCommand opc s)) := by
  unfold issueCommand
  cases h : decodeWord v with
  | instr i => exact .inl ⟨i, rfl, rfl⟩
  | reserved opc => exact .inr ⟨opc, rfl, rfl⟩

/-- An admitted write with BUSY = 0 issues a command, stores into an RW register, or does nothing (R203). -/
theorem hostWrite_cases (off : Nat) (v : Word) (s : State) :
    hostWrite off v s = .next s ∨
      (∃ r, regAt off = some r ∧ r.access = .rw ∧ hostWrite off v s = .next (writeReg r v s)) ∨
      (regAt off = some .cmd ∧ hostWrite off v s = issueCommand v s) := by
  unfold hostWrite
  cases h : regAt off with
  | none => exact .inl rfl
  | some r =>
    cases ha : r.access with
    | rw => exact .inr (.inl ⟨r, rfl, ha, by simp [ha]⟩)
    | ro => exact .inl (by simp [ha])
    | wo =>
      have hr : r = .cmd := by cases r <;> first | rfl | cases ha
      exact .inr (.inr ⟨by rw [hr], by simp [ha]⟩)

/-- A host access records a fault, returns a read, or is an admitted write with BUSY = 0 (R201 to R203, R630). -/
theorem hostAccess_cases (a : HostAccess) (s : State) :
    (∃ f, hostAccess a s = .next (raiseFault f s)) ∨
      (∃ off v, hostAccess a s = .next (observe off v s)) ∨
      (∃ off v, s.busy = false ∧ hostAccess a s = hostWrite off v s) := by
  cases a with
  | read off n =>
    simp only [hostAccess]
    split
    · exact .inr (.inl ⟨_, _, rfl⟩)
    · exact .inl ⟨_, rfl⟩
  | write off n v =>
    simp only [hostAccess]
    split
    · split
      · exact .inl ⟨_, rfl⟩
      · rename_i hb
        exact .inr (.inr ⟨off, v, by simpa using hb, rfl⟩)
    · exact .inl ⟨_, rfl⟩

/-- A word read of a register by name: what it returns joins the host's observations. -/
@[simp] theorem hostAccess_read_reg (r : Reg) (s : State) :
    hostAccess (.read r.offset Config.accessBytes) s = .next (observe r.offset (readReg r s) s) := by
  simp [hostAccess, hostRead]

/-- Nothing changed but the host's own fields. -/
def hostMoved (s t : State) : Prop := ∃ h o, t = { s with hpc := h, obs := o }

/-- One host statement records a fault, moves the host alone, or is an admitted write with BUSY = 0 after which the
host goes on (R340). -/
theorem runStmt_cases (st : Stmt) (s t : State) (h : runStmt st s = .next t) :
    (∃ f, t = raiseFault f s) ∨ hostMoved s t ∨
      (∃ off v u, s.busy = false ∧ hostWrite off v s = .next u ∧ t = advance u) := by
  have wr : ∀ r v, wrStmt (Reg.offset r) v s = .next t →
      (∃ f, t = raiseFault f s) ∨ hostMoved s t ∨
        (∃ off v u, s.busy = false ∧ hostWrite off v s = .next u ∧ t = advance u) := by
    intro r v hw
    unfold wrStmt at hw
    cases hb : s.busy with
    | true =>
      simp [hb, hostAccess] at hw
      exact .inl ⟨_, hw.symm⟩
    | false =>
      simp [hb, hostAccess] at hw
      obtain ⟨u, hu, ht⟩ := andThen_eq_next hw
      exact .inr (.inr ⟨_, v, u, rfl, hu, ht⟩)
  have rd : ∀ r (k : State → State), (∀ u, hostMoved u (k u)) → rdStmt r k s = .next t → hostMoved s t := by
    intro r k hk hr
    simp only [rdStmt, hostAccess_read_reg, andThen_next, Host.Outcome.next.injEq] at hr
    obtain ⟨h', o, hu⟩ := hk (observe r.offset (readReg r s) s)
    exact ⟨h', o, by rw [← hr, hu]; rfl⟩
  have adv : ∀ u, hostMoved u (advance u) := fun u => ⟨_, _, rfl⟩
  have jmp : ∀ l u, hostMoved u (jumpTo l u) := fun l u => ⟨_, _, rfl⟩
  have stay : ∀ u, hostMoved u (id u) := fun u => ⟨_, _, rfl⟩
  cases st with
  | wr r v => exact wr r v h
  | cmd i => exact wr .cmd _ h
  | rd r => exact .inr (.inl (rd r _ adv h))
  | poll =>
    refine .inr (.inl (rd .status _ ?_ h))
    split <;> assumption
  | jeq f v l =>
    refine .inr (.inl (rd f.reg _ ?_ h))
    split
    · exact jmp l
    · exact adv
  | jne f v l =>
    refine .inr (.inl (rd f.reg _ ?_ h))
    split
    · exact adv
    · exact jmp l
  | label l => simp [runStmt] at h; subst h; exact .inr (.inl ⟨_, _, rfl⟩)
  | jmp l => simp [runStmt] at h; subst h; exact .inr (.inl ⟨_, _, rfl⟩)
  | halt => simp [runStmt] at h; subst h; exact .inr (.inl ⟨_, _, rfl⟩)

/-- What the step of an input can do when it answers a next state. -/
inductive StepCase (i : Input) (s t : State) : Prop where
  /-- A host step recorded a model fault (R620). -/
  | fault (f : Fault) (hi : i.isHost = true) (ht : t = raiseFault f s)
  /-- Only the host's own fields moved: a read, a jump, a write that has no effect. -/
  | host (hi : i.isHost = true) (ht : hostMoved s t)
  /-- A host write stored into an RW register (R203). -/
  | store (r : Reg) (v : Word) (h : Nat) (hi : i.isHost = true) (hb : s.busy = false) (hr : r.access = .rw)
      (ht : t = { writeReg r v s with hpc := h })
  /-- A host write issued a command (R315). -/
  | command (v : Word) (u : State) (h : Nat) (hi : i.isHost = true) (hb : s.busy = false)
      (hu : issueCommand v s = .next u) (ht : t = { u with hpc := h })
  /-- The TX step (R458). -/
  | tx (a : WriteAnswer) (hi : i = .writeAnswered a) (hp : s.phase = .tx) (ht : t = txAnswer a s)
  /-- The WAIT-end step (R462). -/
  | waited (us : Nat) (hi : i = .waitElapsed us) (hp : s.phase = .wait) (hu : s.timer.toNat ≤ us)
      (ht : t = request .read { s with phase := .rx })
  /-- The RX step (R463). -/
  | rx (a : ReadAnswer) (hi : i = .readAnswered a) (hp : s.phase = .rx) (ht : t = rxAnswer a s)
  /-- A sequencer step that was not enabled (log entry 3). -/
  | disabled (hi : i.isHost = false) (hr : i.isReset = false) (ht : t = s)
  /-- Reset (R700). -/
  | reset (reached : Fin 6) (hi : i = .reset reached) (ht : t = resetStep reached s)

theorem hostWrite_stepCase {i : Input} {off : Nat} {v : Word} {s u : State} (hi : i.isHost = true)
    (hb : s.busy = false) (hw : hostWrite off v s = .next u) (h : Nat) : StepCase i s { u with hpc := h } := by
  rcases hostWrite_cases off v s with h1 | ⟨r, -, hr, h1⟩ | ⟨-, h1⟩
  · have hu : s = u := by simpa [hw] using h1.symm
    subst hu
    exact .host hi ⟨_, _, rfl⟩
  · have hu : u = writeReg r v s := by simpa [hw] using h1
    subst hu
    exact .store r v h hi hb hr rfl
  · exact .command v u h hi hb (by rw [← h1, hw]) rfl

/-- The inversion lemma of the step of an input. -/
theorem runInput_cases {i : Input} {s t : State} (h : runInput i s = .next t) : StepCase i s t := by
  cases i with
  | host a =>
    simp only [runInput] at h
    rcases hostAccess_cases a s with ⟨f, h1⟩ | ⟨off, v, h1⟩ | ⟨off, v, hb, h1⟩
    · exact .fault f rfl (by simpa [h] using h1)
    · have : t = observe off v s := by simpa [h] using h1
      subst this
      exact .host rfl ⟨_, _, rfl⟩
    · exact hostWrite_stepCase rfl hb (h1.symm.trans h) t.hpc
  | hostStmt =>
    simp only [runInput, hostStmt] at h
    split at h
    · rcases runStmt_cases _ s t h with ⟨f, h1⟩ | h1 | ⟨off, v, u, hb, h1, h2⟩
      · exact .fault f rfl h1
      · exact .host rfl h1
      · subst h2
        exact hostWrite_stepCase rfl hb h1 _
    · simp at h
      subst h
      exact .host rfl ⟨_, _, rfl⟩
  | writeAnswered a =>
    simp only [runInput, txStep, Host.Outcome.next.injEq] at h
    split at h
    · rename_i hp
      exact .tx a rfl hp h.symm
    · exact .disabled rfl rfl h.symm
  | waitElapsed us =>
    simp only [runInput, waitStep, Host.Outcome.next.injEq] at h
    split at h
    · rename_i hp
      exact .waited us rfl hp.1 hp.2 h.symm
    · exact .disabled rfl rfl h.symm
  | readAnswered a =>
    simp only [runInput, rxStep, Host.Outcome.next.injEq] at h
    split at h
    · rename_i hp
      exact .rx a rfl hp h.symm
    · exact .disabled rfl rfl h.symm
  | reset reached =>
    exact .reset reached rfl (by simpa [runInput] using h.symm)

end Sys2Proof.Machine
end

