-- ==== Sys2Proof/Laws/PerInstr.lean ====
section
/-! SUPPORT. The per-instruction family `Encoding`: the fields of every command's canonical word (R301, R310, R340). -/

namespace Sys2Proof.Laws

/-- The canonical word of a command holds its opcode in OPC, its operand (or 0) in IMM8, 0 in RSVD, and no bit of IMM8
that the command ignores. -/
def Encoding.Statement (i : Instr) : Prop :=
  opcField (encodeWord i) = opcode i ∧ immField (encodeWord i) = immOf i ∧
    (encodeWord i).extractLsb' 16 16 = 0 ∧ encodeWord i &&& fieldMask i = encodeWord i

theorem Encoding.encode : Encoding.Statement .encode := by unfold Encoding.Statement; decide
theorem Encoding.decode : Encoding.Statement .decode := by unfold Encoding.Statement; decide
theorem Encoding.crcinit : Encoding.Statement .crcinit := by unfold Encoding.Statement; decide
theorem Encoding.crcbyte (imm : Byte) : Encoding.Statement (.crcbyte imm) := by
  revert imm
  unfold Encoding.Statement
  decide
theorem Encoding.send : Encoding.Statement .send := by unfold Encoding.Statement; decide
theorem Encoding.xchg : Encoding.Statement .xchg := by unfold Encoding.Statement; decide

end Sys2Proof.Laws
end

