-- ==== Sys2Proof/Laws/Run.lean ====
section
/-! SUPPORT. Running the block: one step on an input that waits, several steps one at a time, and the host's own
`Core.run`. -/

namespace Sys2Proof.Machine

/-- With an input waiting, a step is the step of that input. -/
theorem step_of_inputs {s : State} {i : Input} {rest : List Input} (h : s.inputs = i :: rest) :
    step s = runInput i { s with inputs := rest } := by
  simp [step, takeInput, h]

/-- With no input waiting, a step changes nothing (R454, R702). -/
theorem step_of_no_inputs {s : State} (h : s.inputs = []) : step s = .next s := by
  simp [step, takeInput, h]

/-- The inversion lemma of a step: nothing waits and nothing changes, or one input is taken and does one of the things
`StepCase` lists. -/
theorem step_cases {s t : State} (h : step s = .next t) :
    (s.inputs = [] ∧ t = s) ∨
      ∃ i rest, s.inputs = i :: rest ∧ StepCase i { s with inputs := rest } t := by
  cases hi : s.inputs with
  | nil =>
    rw [step_of_no_inputs hi] at h
    exact .inl ⟨rfl, by simpa using h.symm⟩
  | cons i rest =>
    rw [step_of_inputs hi] at h
    exact .inr ⟨i, rest, rfl, runInput_cases h⟩

@[simp] theorem runSteps_zero (s : State) : runSteps 0 s = .next s := rfl

/-- The first of several steps, when it answers a next state. -/
theorem runSteps_succ {s t : State} (k : Nat) (h : step s = .next t) : runSteps (k + 1) s = runSteps k t := by
  simp [runSteps, h]

/-- The first step of the host's run of any machine, when it answers a next state. -/
theorem hostRun_next {M : Host.Core} {s t : M.State} (k : Nat) (h : M.step s = .next t) :
    M.run (k + 1) s = M.run k t := by
  simp [Host.Core.run, h]

theorem hostRun_fault {M : Host.Core} {s : M.State} {r : M.Fault} (k : Nat) (h : M.step s = .fault r) :
    M.run (k + 1) s = .fault r := by
  simp [Host.Core.run, h]

theorem hostRun_refused {M : Host.Core} {s : M.State} {r : M.Refusal} (k : Nat) (h : M.step s = .refused r) :
    M.run (k + 1) s = .refused r := by
  simp [Host.Core.run, h]

/-- The host's run of the machine is this one. -/
theorem core_run_eq_runSteps (k : Nat) (s : State) : core.run k s = runSteps k s := by
  induction k generalizing s with
  | zero => rfl
  | succ k ih =>
    cases h : step s with
    | next t => exact (hostRun_next (M := core) k h).trans ((ih t).trans (runSteps_succ k h).symm)
    | fault r =>
      have hr : runSteps (k + 1) s = .fault r := by simp [runSteps, h]
      exact (hostRun_fault (M := core) k h).trans hr.symm
    | refused r =>
      have hr : runSteps (k + 1) s = .refused r := by simp [runSteps, h]
      exact (hostRun_refused (M := core) k h).trans hr.symm

/-- A state that has ended has ended in time. -/
theorem endsInTime_of_ended {s : State} (h : Ended s) : EndsInTime s := ⟨0, s, Nat.zero_le _, rfl, h⟩

/-- With no input left, a busy transaction does not end in time. -/
theorem not_endsInTime_of_no_inputs {s : State} (hb : s.busy = true) (h : s.inputs = []) : ¬EndsInTime s := by
  rintro ⟨k, t, hk, ht, he⟩
  obtain rfl : k = 0 := by simpa [h] using hk
  obtain rfl : s = t := by simpa using ht
  exact Bool.false_ne_true (he.1.symm.trans hb)

/-- A busy transaction ends in time exactly if the next step ends it or leaves it to end in time. -/
theorem endsInTime_step {s t : State} {i : Input} {rest : List Input} (hb : s.busy = true) (hi : s.inputs = i :: rest)
    (hs : step s = .next t) (ht : t.inputs = rest) : EndsInTime s ↔ Ended t ∨ EndsInTime t := by
  constructor
  · rintro ⟨k, u, hk, hu, he⟩
    cases k with
    | zero =>
      obtain rfl : s = u := by simpa using hu
      exact absurd (he.1.symm.trans hb) Bool.false_ne_true
    | succ k =>
      rw [runSteps_succ k hs] at hu
      exact .inr ⟨k, u, by simpa [hi, ht] using hk, hu, he⟩
  · rintro (h | ⟨k, u, hk, hu, he⟩)
    · exact ⟨1, t, by simp [hi], by rw [runSteps_succ 0 hs, runSteps_zero], h⟩
    · exact ⟨k + 1, u, by simpa [hi, ht] using hk, by rw [runSteps_succ k hs, hu], he⟩

/-- A write to CMD with BUSY = 0 issues its command (R203, R315). -/
theorem step_of_command {s : State} {w : Word} {rest : List Input} (hb : s.busy = false)
    (h : s.inputs = .host (.write 0x00 4 w) :: rest) : step s = issueCommand w { s with inputs := rest } := by
  rw [step_of_inputs h]
  simp [runInput, hostAccess, admitted, Config.accessBytes, Config.windowBytes, hb, hostWrite, regAt, Reg.access]

end Sys2Proof.Machine
end

