-- ==== Sys2Proof/Tests/Slice0.lean ====
section
/-! SUPPORT. The model's own tests, with expected values from spec/95_test_vectors.md and the rules' examples, the
WellFormed smoke tests, and for each statement with hypotheses a witness that meets them. -/

namespace Sys2Proof.Tests

open Sys2Proof Sys2Proof.Machine

set_option maxRecDepth 20000

/-! ## Helpers -/

/-- The state one step on. -/
def after (s : State) : State :=
  match step s with
  | .next t => t
  | .fault _ => s
  | .refused _ => s

/-- The launch state with inputs waiting. -/
def launch (l : List Input) : State := { State.reset with inputs := l }

/-- A write of a command word to CMD. -/
def cmdWrite (w : Word) : Input := .host (.write 0x00 4 w)

/-- The launch state with the packet (5, 100, Command, Idle) of T1 and T2. -/
def packetState (l : List Input) : State := { launch l with pktAddr := 5, pktPos := 100, pktKind := 1 }

/-- After SEND was accepted (T1). -/
def sendTx (l : List Input) : State := { after (packetState [cmdWrite 0x00000005]) with inputs := l }

/-- After XCHG was accepted (T2). -/
def xchgTx (l : List Input) : State := { after (packetState [cmdWrite 0x00000006]) with inputs := l }

/-- XCHG in WAIT (T2). -/
def xchgWait (l : List Input) : State := { after (xchgTx [.writeAnswered .ok]) with inputs := l }

/-- XCHG in RX (T2). -/
def xchgRx (l : List Input) : State := { after (xchgWait [.waitElapsed 1000000]) with inputs := l }

/-- The reply of T2. -/
def reply : Frame := ⟨0xD4, 0x01, 0x41, 0x91, 0x4E⟩

/-! ## WellFormed refuses an ill-formed term, check by check -/

/-- The program of the smoke tests, well-formed. -/
def goodProgram : List Stmt :=
  [.label 0, .cmd .xchg, .poll, .jeq fieldValid 0 0, .jne fieldIoerr 0 1, .jmp 1, .label 1, .halt]

theorem test_wellFormed_accepts : programWellFormed goodProgram = true := by decide
theorem test_wellFormed_refuses_unnamed_field : programWellFormed [.label 0, .jeq ⟨.status, 6, 2⟩ 0 0] = false := by decide
theorem test_wellFormed_refuses_unnamed_field_jne : programWellFormed [.label 0, .jne ⟨.txbuf 0, 0, 8⟩ 0 0] = false := by decide
theorem test_wellFormed_refuses_undefined_label : programWellFormed [.label 0, .jmp 1] = false := by decide
theorem test_wellFormed_refuses_undefined_label_jeq : programWellFormed [.jeq fieldBusy 1 0] = false := by decide
theorem test_wellFormed_refuses_label_twice : programWellFormed [.label 0, .label 0] = false := by decide
theorem test_wellFormed_instr : Instr.wellFormed (.crcbyte 0xFF) = true := by decide

/-! ## Decoding: words written bit by bit from R301 and R310 (V50) -/

theorem test_decode_encode : decodeWord 0b11111111111111111010101100000001 = .instr .encode := by decide
theorem test_decode_decode : decodeWord 0b00000000000000000000000000000010 = .instr .decode := by decide
theorem test_decode_crcinit : decodeWord 0b00000000000000000000000000000011 = .instr .crcinit := by decide
theorem test_decode_crcbyte : decodeWord 0b10101011110011010011000100000100 = .instr (.crcbyte 0x31) := by decide
theorem test_decode_send : decodeWord 0b00000000000000000000000000000101 = .instr .send := by decide
theorem test_decode_xchg : decodeWord 0b00000000000000000000000000000110 = .instr .xchg := by decide
theorem test_decode_reserved_zero : decodeWord 0b11111111111111111111111100000000 = .reserved 0x00 := by decide
theorem test_decode_reserved_seven : decodeWord 0b00000000000000000000000000000111 = .reserved 0x07 := by decide
theorem test_decodeTableWord : decodeTableWord 32 0xD404 = some (.crcbyte 0xD4) ∧ decodeTableWord 32 0x07 = none := by decide

/-! ## The codec (V1, V20, V21, V40) -/

theorem test_crc_check_value : crc8 [0x31, 0x32, 0x33, 0x34, 0x35, 0x36, 0x37, 0x38, 0x39] = 0xF4 := by decide
theorem test_pack_truncates : pack 0x1234 0xABCD 1 1 = ⟨0xD4, 0x8D, 0x2F, 0x37, 0xE7⟩ := by decide
theorem test_pack_alternating : pack 682 1365 0 1 = ⟨0xD4, 0xAA, 0x95, 0x55, 0x56⟩ := by decide
theorem test_unpack_all_ones : unpack ⟨0xFF, 0xFF, 0xFF, 0xFF, 0xFF⟩ = ⟨1023, 4095, 1, 1, false, false, false⟩ := by decide
theorem test_unpack_corrupted : unpack ⟨0xD4, 0x01, 0x41, 0x95, 0x4E⟩ = ⟨5, 101, 0, 1, true, false, false⟩ := by decide
theorem test_crc_error_patterns :
    crc8 [0, 0, 0, 0x01] = 0x07 ∧ crc8 [0, 0, 0x80, 0] = 0xB6 ∧ crc8 [0, 0x80, 0, 0] = 0x0B ∧ crc8 [0x80, 0, 0, 0] = 0x31 := by decide

/-! ## The commands, one step each -/

/-- V20 row 30 through the register window: STATUS reads 0x0000_0102. -/
theorem test_encode :
    let t := after { launch [cmdWrite 0x00000001] with pktAddr := 0x1234, pktPos := 0xABCD, pktKind := 1, pktStatus := 1 }
    t.txbuf = ⟨0xD4, 0x8D, 0x2F, 0x37, 0xE7⟩ ∧ statusWord t = 0x00000102 := by decide

/-- V50: ENCODE from reset. -/
theorem test_encode_from_reset : (after (launch [cmdWrite 0xFFFFAB01])).txbuf = ⟨0xD4, 0x00, 0x00, 0x00, 0x95⟩ := by decide

/-- V21 row 11. -/
theorem test_decode_invalid :
    let t := after { launch [cmdWrite 0x00000002] with rxbuf := ⟨0xD4, 0x4B, 0x13, 0x4B, 0x66⟩ }
    t.dAddr = 300 ∧ t.dPos = 1234 ∧ dFlagsWord t = 0x2B ∧ statusWord t = 0x00000202 := by decide

/-- V21 row 15. -/
theorem test_decode_valid :
    let t := after { launch [cmdWrite 0x00000002] with rxbuf := ⟨0xD4, 0x80, 0x20, 0x01, 0x37⟩ }
    t.dAddr = 512 ∧ t.dPos = 2048 ∧ dFlagsWord t = 0x3D := by decide

/-- V30 row 1. -/
theorem test_crcinit :
    let t := after { launch [cmdWrite 0x00000003] with crcAcc := 0x5A }
    t.crcAcc = 0x00 ∧ statusWord t = 0x00000302 := by decide

/-- V30: the table is indexed by ACC ^ b. -/
theorem test_crcbyte : (after { launch [cmdWrite 0x00000004] with crcAcc := 0xFF }).crcAcc = 0xF3 := by decide

/-- V30: RSVD set. -/
theorem test_crcbyte_reserved_bits :
    let t := after (launch [cmdWrite 0xABCD3104])
    t.crcAcc = 0x97 ∧ statusWord t = 0x00000402 := by decide

/-- T1: STATUS during TX, and the frame requested. -/
theorem test_send :
    statusWord (sendTx []) = 0x00000511 ∧ (sendTx []).chanReqs = [.write ⟨0xD4, 0x01, 0x41, 0x92, 0x47⟩] ∧
      (sendTx []).wire = [] := by decide

/-- T1: the end of SEND. -/
theorem test_send_ends :
    let t := after (sendTx [.writeAnswered .ok])
    statusWord t = 0x00000502 ∧ t.wire = [0xD4, 0x01, 0x41, 0x92, 0x47] ∧ ioerrInfoWord t = 0 := by decide

/-- T2: STATUS in each phase, and TIMER. -/
theorem test_xchg_phases :
    statusWord (xchgTx []) = 0x00000611 ∧ statusWord (xchgWait []) = 0x00000621 ∧ statusWord (xchgRx []) = 0x00000631 ∧
      (xchgWait []).timer = 1000000 := by decide

/-- T2: the end of XCHG. -/
theorem test_xchg_ends :
    let t := after (xchgRx [.readAnswered (.ok 5 reply)])
    statusWord t = 0x00000602 ∧ t.rxbuf = reply ∧ t.dAddr = 5 ∧ t.dPos = 100 ∧ dFlagsWord t = 0x3D := by decide

/-- T3: a write error, two bytes of the frame on the wire. -/
theorem test_write_error :
    let t := after (xchgTx [.writeAnswered (.err 0x0013 2)])
    statusWord t = 0x00000606 ∧ ioerrInfoWord t = 0x00130001 ∧ t.wire = [0xD4, 0x01] ∧ t.chanReqs.length = 1 := by decide

/-- T5 and T6: a read error and a short read. -/
theorem test_read_errors :
    ioerrInfoWord (after (xchgRx [.readAnswered (.err 0x0005)])) = 0x00050002 ∧
      ioerrInfoWord (after (xchgRx [.readAnswered (.ok 3 ⟨1, 2, 3, 0, 0⟩)])) = 0x00000033 ∧
      (after (xchgRx [.readAnswered (.ok 3 ⟨1, 2, 3, 0, 0⟩)])).rxbuf = Frame.zero := by decide

/-- T4: an invalid reply is no error. -/
theorem test_invalid_reply :
    let t := after (xchgRx [.readAnswered (.ok 5 ⟨0xD4, 0x01, 0x41, 0x95, 0x4E⟩)])
    statusWord t = 0x00000602 ∧ t.dPos = 101 ∧ dFlagsWord t = 0x29 := by decide

/-- V50: a reserved opcode after an error clears it. -/
theorem test_reserved :
    let t := after { launch [cmdWrite 0x00000007] with ioerr := true, ioSrc := .write, ioCode := 0x13, done := true }
    statusWord t = 0x0000070A ∧ ioerrInfoWord t = 0 := by decide

/-! ## The host port (V60) and reset (V70) -/

theorem test_write_masks :
    (after (launch [.host (.write 0x10 4 0xFFFFFFFF)])).pktKind = 1 ∧
      pktFlagsWord (after (launch [.host (.write 0x10 4 0xFFFFFFFF)])) = 3 ∧
      (after (launch [.host (.write 0x28 4 0x000001D4)])).rxbuf.f0 = 0xD4 ∧
      (after (launch [.host (.write 0x14 4 0x000000AA)])).txbuf = Frame.zero := by decide

theorem test_access_faults :
    (after (launch [.host (.read 0x04 2)])).faults = [.fAccess 0x04 2] ∧
      (after (launch [.host (.read 0x06 4)])).faults = [.fAccess 0x06 4] ∧
      (after (launch [.host (.read 0x80 4)])).faults = [.fAccess 0x80 4] := by decide

theorem test_busy_write :
    let t := after (xchgWait [.host (.write 0x08 4 7)])
    t.faults = [.fBusyWrite 0x08 7] ∧ t.pktAddr = 5 ∧ t.phase = .wait := by decide

theorem test_read_while_busy : (after (xchgWait [.host (.read 0x04 4)])).obs = [⟨0x04, 0x00000621⟩] := by decide

theorem test_reset_in_wait :
    after (xchgWait [.reset 0]) =
      { State.reset with chanReqs := (xchgWait []).chanReqs, wire := (xchgWait []).wire } := by decide

/-- R340: POLL stays while BUSY = 1; JEQ on D_FLAGS.VALID jumps. -/
theorem test_poll_and_jeq :
    (after { xchgWait [.hostStmt] with prog := goodProgram, hpc := 2 }).hpc = 2 ∧
      (after { launch [.hostStmt] with prog := goodProgram, hpc := 3 }).hpc = 0 := by decide

/-- R341: LDPKT's flags word. -/
theorem test_ldpkt : ldpkt 5 100 1 0 = [.wr .pktAddr 5, .wr .pktPos 100, .wr .pktFlags 2] := by decide

/-- The host's probe: the placed word runs as the first command after reset. -/
theorem test_withFetchWord : (after (State.reset.withFetchWord 32 0x5A04)).crcAcc = crc8 [0x5A] := by decide

/-! ## Witnesses: for each statement with hypotheses, states and operands that meet them -/

/-- `step` answers a next state: what a hypothesis `step s = .next t` asks for. -/
def steps (s : State) : Bool :=
  match step s with
  | .next _ => true
  | .fault _ | .refused _ => false

theorem steps_next {s : State} (h : steps s = true) : step s = .next (after s) := by
  unfold steps at h
  unfold after
  cases hs : step s with
  | next t => rfl
  | fault r => rw [hs] at h; cases h
  | refused r => rw [hs] at h; cases h

/-- The reset state, the three busy states and a completed one all meet the invariant. -/
theorem witness_inv_reset : Inv (launch []) := by constructor <;> (try simp only [Cause.opcodes]) <;> decide
theorem witness_inv_tx : Inv (xchgTx []) := by constructor <;> (try simp only [Cause.opcodes]) <;> decide
theorem witness_inv_wait : Inv (xchgWait []) := by constructor <;> (try simp only [Cause.opcodes]) <;> decide
theorem witness_inv_rx : Inv (xchgRx []) := by constructor <;> (try simp only [Cause.opcodes]) <;> decide

/-- A command completed with a write error. -/
def failed (l : List Input) : State := { after (sendTx [.writeAnswered (.err 0x0013 5)]) with inputs := l }

theorem witness_inv_failed : Inv (failed []) := by constructor <;> (try simp only [Cause.opcodes]) <;> decide

theorem witness_DecodeInvertsEncode :
    Instr.wellFormed (.crcbyte 0xFF) = true ∧ 0xABCDFF04 &&& fieldMask (.crcbyte 0xFF) = encodeWord (.crcbyte 0xFF) ∧
      0xABCDFF01 &&& fieldMask .encode = encodeWord .encode := by decide

theorem witness_IgnoredCommandBits :
    (opcField 0xABCD3104 = opcField 0x00003104 ∧ opcField 0xABCD3104 = 0x04 ∧
      immField 0xABCD3104 = immField 0x00003104) ∧
    (opcField 0xFFFFAB01 = opcField 0x00000001 ∧ opcField 0xFFFFAB01 ≠ 0x04 ∧
      immField 0xFFFFAB01 ≠ immField 0x00000001) ∧
    (launch []).busy = false := by decide

theorem witness_StepRunsTheDecodedCommand :
    ((launch [cmdWrite 0xFFFFAB06]).busy = false ∧ decodeWord 0xFFFFAB06 = .instr .xchg ∧
      (launch [cmdWrite 0xFFFFAB06]).inputs = .host (.write 0x00 4 0xFFFFAB06) :: []) ∧
    decodeTableWord 32 0x0000D404 = some (.crcbyte 0xD4) := by decide

theorem witness_UnpackInvertsPack : (1023 : BitVec 16).toNat ≤ 1023 ∧ (4095 : BitVec 16).toNat ≤ 4095 := by decide

theorem witness_ValidFramesAreEncodings : (unpack ⟨0xD4, 0xFF, 0xFF, 0xFF, 0x9A⟩).valid = true := by decide

/-- R407's last clause at both ends of byte 0; V8's flip of bit 0 of byte 3. -/
theorem witness_SingleBitErrors :
    24 ≤ (24 : Fin 32).val ∧ 24 ≤ (31 : Fin 32).val ∧
      (pack 300 1234 1 0).flipBit 0 = ⟨0xD4, 0x4B, 0x13, 0x4B, 0x66⟩ ∧
      (pack 300 1234 1 0).flipBit 24 = ⟨0xD5, 0x4B, 0x13, 0x4A, 0x66⟩ ∧
      (pack 300 1234 1 0).flipBit 31 = ⟨0x54, 0x4B, 0x13, 0x4A, 0x66⟩ := by decide

/-- V6. -/
theorem witness_SyncGate :
    (0x00 : Byte) ≠ 0xD4 ∧ (0x00 : Byte) = crc8 [0x00, 0x00, 0x00, 0x00] ∧
      (0xD5 : Byte) ≠ 0xD4 ∧ (0x8D : Byte) = crc8 [0xD5, 0x00, 0x00, 0x02] := by decide

theorem witness_command_words :
    opcField 0xFFFFFF01 = 0x01 ∧ opcField 0x00000002 = 0x02 ∧ opcField 0x00000003 = 0x03 ∧
      opcField 0x0000FF04 = 0x04 ∧ opcField 0x00000005 = 0x05 ∧ opcField 0xFFFFFF06 = 0x06 := by decide

theorem witness_ReservedOpcode :
    (launch []).busy = false ∧ opcField 0xFFFFFF00 = 0x00 ∧ 0x07 ≤ (opcField 0x00000007).toNat ∧
      0x07 ≤ (opcField 0x000000FF).toNat ∧ (launch [cmdWrite 7]).inputs = .host (.write 0x00 4 7) :: [] := by decide

/-- Each command answers a next state, in a state with an outcome to clear. -/
theorem witness_CommandsLeaveTheRestAlone (i : Instr) : ∃ t, exec i (failed []) = .next t := by
  cases i <;> exact ⟨_, rfl⟩

theorem witness_command_exclusions :
    Instr.encode ≠ .crcinit ∧ (∀ b, Instr.encode ≠ .crcbyte b) ∧ Instr.crcinit ≠ .encode ∧ Instr.crcinit ≠ .send ∧
      Instr.crcinit ≠ .xchg ∧ Instr.crcinit ≠ .decode ∧
      (Input.readAnswered (.ok 5 reply)).isHost = false ∧ (Input.readAnswered (.ok 5 reply)).isReset = false := by
  refine ⟨by decide, fun b h => (by cases h), by decide, by decide, by decide, by decide, by decide, by decide⟩

theorem witness_CrcCommandsComputeCrc8 :
    let s := launch [cmdWrite 0x00000003, cmdWrite 0x00003104, cmdWrite 0x0000FF04]
    s.busy = false ∧
      s.inputs = .host (.write 0x00 4 0x00000003) ::
        [0x31, 0xFF].map (fun b : Byte => Input.host (.write 0x00 4 (0#16 ++ b ++ 0x04#8))) := by decide

theorem witness_EncodeThenDecode :
    ∃ t u, exec .encode (packetState []) = .next t ∧ exec .decode { t with rxbuf := t.txbuf } = .next u :=
  ⟨_, _, rfl, rfl⟩

theorem witness_InadmissibleAccess :
    (2 ≠ 4 ∨ 0x04 % 4 ≠ 0 ∨ 0x80 ≤ 0x04) ∧ (4 ≠ 4 ∨ 0x06 % 4 ≠ 0 ∨ 0x80 ≤ 0x06) ∧
      (4 ≠ 4 ∨ 0x80 % 4 ≠ 0 ∨ 0x80 ≤ 0x80) ∧
      (xchgWait [.host (.read 0x06 4)]).inputs = .host (.read 0x06 4) :: [] ∧
      (launch [.host (.write 0x80 4 1)]).inputs = .host (.write 0x80 4 1) :: [] := by decide

theorem witness_WriteWhileBusy :
    (xchgTx [cmdWrite 1]).busy = true ∧ 0x00 % 4 = 0 ∧ 0x7C % 4 = 0 ∧ 0x7C < 0x80 ∧
      (xchgTx [cmdWrite 1]).inputs = .host (.write 0x00 4 1) :: [] ∧
      (xchgWait [.host (.write 0x7C 4 1)]).inputs = .host (.write 0x7C 4 1) :: [] := by decide

/-- The ends of the register part and of the reserved part of the window. -/
theorem witness_ReadReturnsTheRegister :
    (∀ off ∈ [0x00, 0x04, 0x50, 0x54, 0x7C], off % 4 = 0 ∧ off < 0x80 ∧
      (launch [.host (.read off 4)]).inputs = .host (.read off 4) :: []) ∧
    Reg.replyDelay.offset = 0x50 ∧ Reg.cmd.offset = 0x00 := by decide

theorem witness_RegisterMap :
    Reg.offset (.txbuf 4) = 0x24 ∧ Reg.offset (.rxbuf 0) = 0x28 ∧ Reg.offset (.txbuf 2) = Reg.offset (.txbuf 2) ∧
      0x50 % 4 = 0 ∧ 0x50 < 0x80 ∧ 0x54 % 4 = 0 ∧ 0x54 < 0x80 := by decide

/-- Both clauses, and in the second one offset for each branch. -/
theorem witness_WriteStores :
    (xchgRx [.host (.write 0x08 4 1)]).busy = true ∧
      (xchgRx [.host (.write 0x08 4 1)]).inputs = .host (.write 0x08 4 1) :: [] ∧
      (∀ off ∈ [0x00, 0x08, 0x0C, 0x10, 0x28, 0x2C, 0x30, 0x34, 0x38, 0x48, 0x50, 0x04, 0x24, 0x54, 0x7C],
        off % 4 = 0 ∧ off < 0x80 ∧ (launch [.host (.write off 4 0xFFFFFFFF)]).busy = false ∧
        (launch [.host (.write off 4 0xFFFFFFFF)]).inputs = .host (.write off 4 0xFFFFFFFF) :: []) := by decide

theorem witness_RegisterReadsBack :
    (launch []).busy = false ∧ Reg.pktFlags ≠ .cmd ∧ Reg.access .pktFlags = .rw ∧ Reg.status ≠ .cmd ∧
      Reg.access .status = .ro ∧ Reg.rxbuf 0 ≠ Reg.rxbuf 4 ∧
      (launch [.host (.write 0x10 4 7)]).inputs = .host (.write (Reg.offset .pktFlags) 4 7) :: [] ∧
      (launch [.host (.write 0x04 4 7)]).inputs = .host (.write (Reg.offset .status) 4 7) :: [] := by decide

/-- A state whose host stands at a statement, idle and busy. -/
def atStmt (st : Stmt) (s : State) : State := { s with inputs := [.hostStmt], prog := [.label 1, st], hpc := 1 }

/-- A label defined twice and one not defined; a field at the top of its word. -/
theorem witness_HostStatements_labels_and_fields :
    (let prog : List Stmt := [.rd .status, .label 1, .halt, .label 1]
     .label 1 ∈ prog ∧ .label 2 ∉ prog ∧ 0 < labelIndex prog 1) ∧
    fieldValue ⟨.ioerrInfo, 16, 16⟩ 0xABCD0032 = 0xABCD ∧ fieldValue fieldPhase 0x00000621 = 2 := by decide

theorem witness_HostStatements :
    (∀ st ∈ [Stmt.wr .pktAddr 5, .cmd .send, .rd .status, .poll, .jeq fieldBusy 0 1, .jeq fieldBusy 1 1,
        .jne fieldBusy 0 1, .jne fieldBusy 1 1, .label 2, .jmp 1, .halt],
      (atStmt st (launch [])).inputs = .hostStmt :: [] ∧
        (atStmt st (launch [])).prog[(atStmt st (launch [])).hpc]? = some st) ∧
    (atStmt (.wr .pktAddr 5) (launch [])).busy = false ∧ (atStmt (.cmd .send) (xchgWait [])).busy = true ∧
      (atStmt (.wr .pktAddr 5) (xchgWait [])).busy = true ∧ (atStmt (.cmd .send) (launch [])).busy = false := by decide

theorem witness_TxStep :
    (sendTx [.writeAnswered .ok]).phase = .tx ∧ (sendTx [.writeAnswered .ok]).curop = some .send ∧
      (sendTx [.writeAnswered .ok]).inputs = .writeAnswered .ok :: [] ∧
      (xchgTx [.writeAnswered .ok]).phase = .tx ∧ (xchgTx [.writeAnswered .ok]).curop ≠ some .send ∧
      (xchgTx [.writeAnswered .ok]).inputs = .writeAnswered .ok :: [] ∧
      (sendTx [.writeAnswered (.err 0xFFFF 0)]).phase = .tx ∧
      (sendTx [.writeAnswered (.err 0xFFFF 0)]).inputs = .writeAnswered (.err 0xFFFF 0) :: [] := by decide

/-- The first clause at exactly TIMER, the second one microsecond short of it and for a host write. -/
theorem witness_WaitLasts :
    (xchgWait []).phase = .wait ∧ (xchgWait []).busy = true ∧ (xchgWait []).timer.toNat ≤ 1000000 ∧
      999999 < (xchgWait []).timer.toNat ∧ Input.isReset (.waitElapsed 999999) = false ∧
      Input.isReset (cmdWrite 6) = false ∧
      (xchgWait [.waitElapsed 1000000]).inputs = .waitElapsed 1000000 :: [] ∧
      (xchgWait [.waitElapsed 999999]).inputs = .waitElapsed 999999 :: [] ∧
      (xchgWait [cmdWrite 6]).inputs = cmdWrite 6 :: [] := by decide

theorem witness_rx_statements :
    (xchgRx []).phase = .rx ∧ (0 : Fin 6).val < 5 ∧ (4 : Fin 6).val < 5 ∧
      (xchgRx [.readAnswered (.ok 5 reply)]).inputs = .readAnswered (.ok 5 reply) :: [] ∧
      (xchgRx [.readAnswered (.err 0)]).inputs = .readAnswered (.err 0) :: [] ∧
      (xchgRx [.readAnswered (.ok 0 reply)]).inputs = .readAnswered (.ok 0 reply) :: [] ∧
      (xchgRx [.readAnswered (.ok 4 reply)]).inputs = .readAnswered (.ok 4 reply) :: [] := by decide

theorem witness_DisabledSteps :
    (launch [.writeAnswered .ok]).phase ≠ .tx ∧ (launch [.writeAnswered .ok]).inputs = .writeAnswered .ok :: [] ∧
      (xchgTx [.waitElapsed 0]).phase ≠ .wait ∧ (xchgTx [.waitElapsed 0]).inputs = .waitElapsed 0 :: [] ∧
      999999 < (xchgWait [.waitElapsed 999999]).timer.toNat ∧
      (xchgWait [.waitElapsed 999999]).inputs = .waitElapsed 999999 :: [] ∧
      (xchgWait [.readAnswered (.ok 5 reply)]).phase ≠ .rx ∧
      (xchgWait [.readAnswered (.ok 5 reply)]).inputs = .readAnswered (.ok 5 reply) :: [] := by decide

/-- The states of the statements about a step from a state the invariant admits: acceptance, the two ends of TX, the end
of WAIT, the end of RX. The invariant holds in each; each steps; each phase move of R460 is made. -/
theorem witness_invariant_steps :
    (Inv (launch [cmdWrite 6]) ∧ steps (launch [cmdWrite 6]) = true ∧ (launch [cmdWrite 6]).resetsNext = false ∧
      (after (launch [cmdWrite 6])).phase = .tx) ∧
    (Inv (sendTx [.writeAnswered .ok]) ∧ steps (sendTx [.writeAnswered .ok]) = true ∧
      (after (sendTx [.writeAnswered .ok])).phase = .idle) ∧
    (Inv (xchgTx [.writeAnswered .ok]) ∧ steps (xchgTx [.writeAnswered .ok]) = true ∧
      (after (xchgTx [.writeAnswered .ok])).phase = .wait) ∧
    (Inv (xchgWait [.waitElapsed 1000000]) ∧ steps (xchgWait [.waitElapsed 1000000]) = true ∧
      (after (xchgWait [.waitElapsed 1000000])).phase = .rx) ∧
    (Inv (xchgRx [.readAnswered (.err 7)]) ∧ steps (xchgRx [.readAnswered (.err 7)]) = true ∧
      (after (xchgRx [.readAnswered (.err 7)])).phase = .idle) := by
  refine ⟨⟨?_, by decide, by decide, by decide⟩, ⟨?_, by decide, by decide⟩, ⟨?_, by decide, by decide⟩,
    ⟨?_, by decide, by decide⟩, ⟨?_, by decide, by decide⟩⟩ <;> constructor <;> (try simp only [Cause.opcodes]) <;> decide

theorem witness_SendRunsToCompletion :
    let s := packetState [cmdWrite 5, .writeAnswered (.err 0x0013 5)]
    s.busy = false ∧ opcField 5 = 0x05 ∧ s.inputs = .host (.write 0x00 4 5) :: .writeAnswered (.err 0x0013 5) :: [] := by
  decide

theorem witness_SendRunsToCompletion_ok :
    (packetState [cmdWrite 5, .writeAnswered .ok]).inputs = .host (.write 0x00 4 5) :: .writeAnswered .ok :: [] := by decide

/-- XCHG with exactly the delay waited out, and a full, an empty and a failed reply. -/
theorem witness_XchgRunsToCompletion :
    ∀ a ∈ [ReadAnswer.ok 5 reply, .ok 0 reply, .ok 4 reply, .err 5],
      let s := packetState [cmdWrite 6, .writeAnswered .ok, .waitElapsed 1000000, .readAnswered a]
      s.busy = false ∧ opcField 6 = 0x06 ∧ s.replyDelay.toNat ≤ 1000000 ∧
        s.inputs = .host (.write 0x00 4 6) :: .writeAnswered .ok :: .waitElapsed 1000000 :: .readAnswered a :: [] := by
  decide

/-- In TX, WAIT and RX, with a host write and a WAIT end that is too early among the answers; and in each a run whose
answer does not come. -/
theorem witness_AnsweredTransactionEnds :
    let l : List Input := [cmdWrite 1, .writeAnswered .ok, .waitElapsed 999999, .waitElapsed 1000000, .readAnswered (.err 5)]
    (Inv (xchgTx l) ∧ (xchgTx l).busy = true ∧ (xchgTx l).inputs.all (fun i => !i.isReset) = true ∧
      channelAnswers (xchgTx l) = true ∧ waitEnds (xchgTx l) = true ∧ channelAnswers (xchgTx (l.take 4)) = false ∧
      waitEnds (xchgTx (l.take 3)) = false) ∧
    (Inv (xchgWait l) ∧ (xchgWait l).busy = true ∧ channelAnswers (xchgWait l) = true ∧ waitEnds (xchgWait l) = true ∧
      channelAnswers (xchgWait (l.take 4)) = false ∧ waitEnds (xchgWait (l.take 3)) = false) ∧
    (Inv (xchgRx l) ∧ (xchgRx l).busy = true ∧ channelAnswers (xchgRx l) = true ∧ waitEnds (xchgRx l) = true ∧
      channelAnswers (xchgRx (l.take 4)) = false) := by
  refine ⟨⟨?_, by decide, by decide, by decide, by decide, by decide, by decide⟩,
    ⟨?_, by decide, by decide, by decide, by decide, by decide⟩, ⟨?_, by decide, by decide, by decide, by decide⟩⟩ <;>
    constructor <;> (try simp only [Cause.opcodes]) <;> decide

/-- SEND with only the answer to its write, and XCHG with only a failed one, host steps around each. -/
theorem witness_AnsweredTransactionEnds_write_only :
    let l : List Input := [cmdWrite 1, .writeAnswered .ok, .host (.read 0x04 4)]
    let e : List Input := [cmdWrite 1, .writeAnswered (.err 0x0013 0), .host (.read 0x04 4)]
    (Inv (sendTx l) ∧ (sendTx l).busy = true ∧ (sendTx l).inputs.all (fun i => !i.isReset) = true ∧
      (sendTx l).phase = .tx ∧ (sendTx l).curop = some .send ∧ .writeAnswered .ok ∈ (sendTx l).inputs ∧
      channelAnswers (sendTx l) = true ∧ waitEnds (sendTx l) = true) ∧
    (Inv (xchgTx e) ∧ (xchgTx e).busy = true ∧ (xchgTx e).inputs.all (fun i => !i.isReset) = true ∧
      (xchgTx e).phase = .tx ∧
      (xchgTx e).inputs = [cmdWrite 1] ++ .writeAnswered (.err 0x0013 0) :: [.host (.read 0x04 4)] ∧
      (∀ a, Input.writeAnswered a ∉ [cmdWrite 1]) ∧ channelAnswers (xchgTx e) = true ∧
      waitEnds (xchgTx e) = true) := by
  refine ⟨⟨?_, by decide, by decide, by decide, by decide, by decide, by decide, by decide⟩,
    ⟨?_, by decide, by decide, by decide, by decide, by simp [cmdWrite], by decide, by decide⟩⟩ <;>
    constructor <;> (try simp only [Cause.opcodes]) <;> decide

theorem witness_UnansweredRequest :
    (xchgTx [cmdWrite 1, .waitElapsed 7]).busy = true ∧ (xchgTx []).phase = .tx ∧ (xchgRx []).phase = .rx ∧
      (xchgRx [.hostStmt]).busy = true ∧
      (xchgTx [cmdWrite 1, .waitElapsed 7]).inputs.all (fun i => !i.isReset && !i.isAnswer) = true ∧
      (xchgRx [.hostStmt]).inputs.all (fun i => !i.isReset && !i.isAnswer) = true := by decide

theorem witness_XchgWriteError :
    let s := packetState [cmdWrite 6, .writeAnswered (.err 0x0013 0)]
    s.busy = false ∧ opcField 6 = 0x06 ∧ s.inputs = .host (.write 0x00 4 6) :: .writeAnswered (.err 0x0013 0) :: [] := by
  decide

/-- Resets in TX and in RX, the second followed by the answer to the dropped read. -/
theorem witness_reset_statements :
    (xchgTx [.reset 2]).inputs = .reset 2 :: [] ∧ (xchgTx [.reset 2]).phase = .tx ∧ (xchgTx [.reset 2]).resetsNext = true ∧
      (xchgTx [.reset 2, .writeAnswered .ok]).inputs = .reset 2 :: .writeAnswered .ok :: [] ∧
      (xchgRx [.reset 0, .readAnswered (.ok 5 reply)]).inputs = .reset 0 :: .readAnswered (.ok 5 reply) :: [] := by decide

theorem witness_FaultRecordIsSticky :
    let s := { xchgWait [cmdWrite 1] with faults := [.fAccess 2 4] }
    s.resetsNext = false ∧ steps s = true ∧ (after s).faults = [.fAccess 2 4, .fBusyWrite 0 1] := by decide

theorem witness_FaultedRun :
    let s := { xchgTx [.writeAnswered (.err 1 0)] with faults := [.fAccess 2 4] }
    s.faults ≠ [] ∧ s.inputs.all (fun i => !i.isReset) = true ∧ steps s = true ∧
      runSteps 1 s = .next (after s) := by
  refine ⟨by decide, by decide, by decide, rfl⟩

/-- DECODED = 1 before the step, which decodes a frame (V21 row 7) over the last. -/
theorem witness_DecodedAndResults :
    let s := { launch [cmdWrite 2] with dDecoded := true, rxbuf := ⟨0xFF, 0xFF, 0xFF, 0xFF, 0xFF⟩ }
    s.resetsNext = false ∧ s.dDecoded = true ∧ steps s = true ∧ (after s).dAddr = 1023 := by decide

/-- A completed command, then a read, and then the next command. -/
theorem witness_OutcomeStays :
    Inv (failed [.host (.read 0x04 4)]) ∧ (failed [.host (.read 0x04 4)]).resetsNext = false ∧
      (failed [.host (.read 0x04 4)]).done = true ∧ steps (failed [.host (.read 0x04 4)]) = true ∧
      steps (failed [cmdWrite 1]) = true ∧ (after (failed [cmdWrite 1])).ioerr = false := by
  refine ⟨?_, by decide, by decide, by decide, by decide, by decide⟩
  constructor <;> (try simp only [Cause.opcodes]) <;> decide

theorem witness_HostChangesNothingWhileBusy :
    (xchgTx [cmdWrite 1]).busy = true ∧ (cmdWrite 1).isHost = true ∧ Input.isHost .hostStmt = true ∧
      (xchgTx [cmdWrite 1]).inputs = cmdWrite 1 :: [] ∧ steps (xchgTx [cmdWrite 1]) = true := by decide

/-- One completed state for each outcome but OK and a read error, and one of those from T2 and T5. -/
theorem witness_CompletedCommand :
    Inv (failed []) ∧ (failed []).done = true ∧ Cause.ioerrWrite.shows (failed []) ∧
      Inv (after (xchgRx [.readAnswered (.ok 4 reply)])) ∧ (after (xchgRx [.readAnswered (.ok 4 reply)])).done = true ∧
      Inv (after (launch [cmdWrite 0xFF])) ∧ (after (launch [cmdWrite 0xFF])).done = true := by
  refine ⟨?_, by decide, ⟨by decide, by decide, by decide⟩, ?_, by decide, ?_, by decide⟩ <;> constructor <;> (try simp only [Cause.opcodes]) <;> decide

end Sys2Proof.Tests
end

section
/-! PROOFS. The state: the invariant that every step keeps, what the frame datapath and the results depend on, and the
register file. -/

namespace Sys2Proof.Machine

/-! ## The invariant in three parts

A step moves one part of the block at a time, so `Inv` is taken apart into what it says of the outcome of the last
command, of the decoded packet, and of the sequencer, which is idle or in a transaction. -/

/-- What `Inv` says of the outcome bits, IOERR_INFO and LASTOP. -/
structure OutcomeInv (s : State) : Prop where
  not_both : ¬(s.ioerr = true ∧ s.cmderr = true)
  error_done : s.ioerr = true ∨ s.cmderr = true → s.done = true
  src_iff : s.ioSrc = .none ↔ s.ioerr = false
  code_zero : s.ioSrc = .none ∨ s.ioSrc = .short → s.ioCode = 0
  count_zero : s.ioSrc ≠ .short → s.ioCount = 0
  count_le : s.ioCount.toNat ≤ 4
  cmderr_op : s.cmderr = true → Cause.cmderr.opcodes s.lastop
  done_op : s.done = true → s.cmderr = false → Cause.ok.opcodes s.lastop
  write_op : s.ioSrc = .write → Cause.ioerrWrite.opcodes s.lastop
  read_op : s.ioSrc = .read ∨ s.ioSrc = .short → Cause.ioerrRead.opcodes s.lastop

/-- What `Inv` says of the decoded packet. -/
structure DecodedInv (s : State) : Prop where
  valid_and : s.dValid = (s.dSyncOk && s.dCrcOk)
  undecoded : s.dDecoded = false →
    s.dAddr = 0 ∧ s.dPos = 0 ∧ s.dKind = 0 ∧ s.dStatus = 0 ∧ s.dSyncOk = false ∧ s.dCrcOk = false

/-- What `Inv` says of an idle sequencer. -/
structure IdleInv (s : State) : Prop where
  busy : s.busy = false
  phase : s.phase = .idle
  fresh : s.done = false → s.lastop = 0 ∧ s.curop = none

/-- What `Inv` says of a transaction in progress. -/
structure TransactionInv (s : State) : Prop where
  busy : s.busy = true
  phase : s.phase ≠ .idle
  not_done : s.done = false
  curop_lastop : s.curop.map (fun op => opcode op.instr) = some s.lastop
  wait_xchg : s.phase = .wait ∨ s.phase = .rx → s.curop = some .xchg
  txbuf : s.txbuf = pack s.pktAddr s.pktPos s.pktKind s.pktStatus
  wait_timer : s.phase = .wait → s.timer = s.replyDelay
  last_write : s.phase = .tx ∨ s.phase = .wait → s.chanReqs.getLast? = some (.write s.txbuf)
  last_read : s.phase = .rx → s.chanReqs.getLast? = some .read

theorem Inv.outcome {s : State} (h : Inv s) : OutcomeInv s := { h with }

theorem Inv.decoded {s : State} (h : Inv s) : DecodedInv s := { h with }

theorem Inv.idle {s : State} (h : Inv s) (hb : s.busy = false) : IdleInv s where
  busy := hb
  phase := by simpa [hb] using h.busy_iff
  fresh := h.fresh hb

theorem Inv.transaction {s : State} (h : Inv s) (hp : s.phase ≠ .idle) : TransactionInv s :=
  have hb := h.busy_iff.mpr hp
  { h with
    busy := hb
    phase := hp
    not_done := h.busy_done hb
    curop_lastop := h.curop_lastop hb
    txbuf := h.busy_txbuf hb }

theorem IdleInv.inv {s : State} (hi : IdleInv s) (ho : OutcomeInv s) (hd : DecodedInv s) : Inv s := by
  obtain ⟨hb, hp, hf⟩ := hi
  exact { ho, hd with
    busy_iff := by simp [hb, hp]
    busy_done := by simp [hb]
    fresh := fun _ => hf
    curop_lastop := by simp [hb]
    wait_xchg := by simp [hp]
    busy_txbuf := by simp [hb]
    wait_timer := by simp [hp]
    last_write := by simp [hp]
    last_read := by simp [hp] }

theorem TransactionInv.inv {s : State} (ht : TransactionInv s) (ho : OutcomeInv s) (hd : DecodedInv s) : Inv s :=
  { ht, ho, hd with
    busy_iff := by simp [ht.busy, ht.phase]
    busy_done := fun _ => ht.not_done
    fresh := by simp [ht.busy]
    curop_lastop := fun _ => ht.curop_lastop
    busy_txbuf := fun _ => ht.txbuf }

/-- The transaction's command is the one that LASTOP names. -/
theorem TransactionInv.op {s : State} (ht : TransactionInv s) :
    ∃ op : TransOp, s.curop = some op ∧ s.lastop = opcode op.instr := by
  obtain ⟨op, hop, hl⟩ := Option.map_eq_some_iff.mp ht.curop_lastop
  exact ⟨op, hop, hl.symm⟩

/-! ## Outcomes -/

/-- No error is recorded: what acceptance makes so (R315). -/
def NoError (s : State) : Prop :=
  s.ioerr = false ∧ s.cmderr = false ∧ s.ioSrc = .none ∧ s.ioCount = 0 ∧ s.ioCode = 0

theorem noError_accept (opc : Byte) (s : State) : NoError (accept opc s) := ⟨rfl, rfl, rfl, rfl, rfl⟩

/-- While no command has completed, no error is recorded. -/
theorem OutcomeInv.noError {s : State} (h : OutcomeInv s) (hd : s.done = false) : NoError s := by
  have hio : s.ioerr = false := by
    cases hc : s.ioerr with
    | false => rfl
    | true => simpa [hd] using h.error_done (.inl hc)
  have hcmd : s.cmderr = false := by
    cases hc : s.cmderr with
    | false => rfl
    | true => simpa [hd] using h.error_done (.inr hc)
  have hsrc := h.src_iff.mpr hio
  exact ⟨hio, hcmd, hsrc, h.count_zero (by simp [hsrc]), h.code_zero (.inl hsrc)⟩

theorem NoError.outcomeInv {s : State} (h : NoError s) (hop : s.done = true → Cause.ok.opcodes s.lastop) :
    OutcomeInv s := by
  obtain ⟨hio, hcmd, hsrc, hcount, hcode⟩ := h
  exact {
    not_both := by simp [hio]
    error_done := by simp [hio, hcmd]
    src_iff := by simp [hio, hsrc]
    code_zero := fun _ => hcode
    count_zero := fun _ => hcount
    count_le := by simp [hcount]
    cmderr_op := by simp [hcmd]
    done_op := fun hd _ => hop hd
    write_op := by simp [hsrc]
    read_op := by simp [hsrc] }

/-- A command of the opcode map can end without an error (R310, R614). -/
theorem ok_opcodes (i : Instr) : Cause.ok.opcodes (opcode i) := by
  cases i <;> simp [Cause.opcodes, opcode]

/-- The opcodes outside the map are 0 and those from 7 on (R330). -/
theorem reserved_opcodes {v : Word} {opc : Byte} (h : decodeWord v = .reserved opc) : Cause.cmderr.opcodes opc := by
  unfold decodeWord at h
  split_ifs at h with h1 h2 h3 h4 h5 h6
  obtain rfl : opcField v = opc := by simpa using h
  show opcField v = 0 ∨ 7 ≤ (opcField v).toNat
  bv_omega

theorem outcomeInv_reservedCommand {opc : Byte} (hop : Cause.cmderr.opcodes opc) (s : State) :
    OutcomeInv (reservedCommand opc s) := by
  constructor <;> simp [reservedCommand, hop]

/-! ## Each kind of step keeps the invariant -/

/-- What the agents outside the block hold, and the FAULT record, are no part of the invariant. -/
theorem Inv.outside {s : State} (h : Inv s) (inputs : List Input) (hpc : Nat) (obs : List Observed)
    (faults : List Fault) : Inv { s with inputs := inputs, hpc := hpc, obs := obs, faults := faults } :=
  { h with }

/-- A write to an RW register writes host registers alone. -/
theorem writeReg_eq (r : Reg) (v : Word) (s : State) : ∃ a p k st rx c d,
    writeReg r v s = { s with
      pktAddr := a, pktPos := p, pktKind := k, pktStatus := st, rxbuf := rx, crcAcc := c, replyDelay := d } := by
  cases r <;> exact ⟨_, _, _, _, _, _, _, rfl⟩

theorem Inv.writeReg {s : State} (h : Inv s) (hb : s.busy = false) (r : Reg) (v : Word) : Inv (writeReg r v s) := by
  obtain ⟨a, p, k, st, rx, c, d, hw⟩ := writeReg_eq r v s
  rw [hw]
  exact IdleInv.inv { h.idle hb with } { h.outcome with } { h.decoded with }

/-- A command that completes in its issuing step without an error. -/
theorem inv_setDone (i : Instr) {s : State} (hb : s.busy = false) (hp : s.phase = .idle) (hn : NoError s)
    (hl : s.lastop = opcode i) (hd : DecodedInv s) : Inv (setDone s) :=
  IdleInv.inv ⟨hb, hp, by simp⟩ (NoError.outcomeInv hn fun _ => hl ▸ ok_opcodes i) { hd with }

theorem decodedInv_writeDecoded (f : Frame) (s : State) : DecodedInv (writeDecoded f s) := ⟨rfl, by simp⟩

theorem Inv.acceptTransaction {s : State} (h : Inv s) (op : TransOp) :
    Inv (acceptTransaction op (accept (opcode op.instr) s)) := by
  refine TransactionInv.inv ?_ (NoError.outcomeInv (noError_accept (opcode op.instr) s) (by simp)) { h.decoded with }
  constructor <;> simp

theorem Inv.exec {s u : State} {i : Instr} (h : Inv s) (hb : s.busy = false) (hu : exec i s = .next u) : Inv u := by
  have hp := (h.idle hb).phase
  have hd := h.decoded
  cases i <;> cases hu
  case encode => exact inv_setDone .encode hb hp (noError_accept (opcode .encode) s) rfl { hd with }
  case decode => exact inv_setDone .decode hb hp (noError_accept (opcode .decode) s) rfl (decodedInv_writeDecoded _ _)
  case crcinit => exact inv_setDone .crcinit hb hp (noError_accept (opcode .crcinit) s) rfl { hd with }
  case crcbyte imm => exact inv_setDone (.crcbyte imm) hb hp (noError_accept (opcode (.crcbyte imm)) s) rfl { hd with }
  case send => exact h.acceptTransaction .send
  case xchg => exact h.acceptTransaction .xchg

theorem Inv.issueCommand {s u : State} {v : Word} (h : Inv s) (hb : s.busy = false)
    (hu : issueCommand v s = .next u) : Inv u := by
  rcases issueCommand_cases v s with ⟨i, -, hi⟩ | ⟨opc, hv, hr⟩
  · exact h.exec hb (hi.symm.trans hu)
  · obtain rfl : reservedCommand opc s = u := by simpa [hu] using hr.symm
    exact IdleInv.inv ⟨hb, (h.idle hb).phase, by simp [reservedCommand]⟩
      (outcomeInv_reservedCommand (reserved_opcodes hv) s) { h.decoded with }

/-- A transaction that completes without an error. -/
theorem inv_complete {s : State} {op : TransOp} (hn : NoError s) (hl : s.lastop = opcode op.instr)
    (hd : DecodedInv s) : Inv (complete s) :=
  IdleInv.inv ⟨rfl, rfl, by simp⟩ (NoError.outcomeInv hn fun _ => hl ▸ ok_opcodes op.instr) { hd with }

/-- A transaction that completes with an I/O error: only XCHG can end with a read error or a short read (R611). -/
theorem inv_complete_recordIoError {s : State} {op : TransOp} {src : IoSrc} {code : BitVec 16} {count : BitVec 3}
    (hc : s.cmderr = false) (hl : s.lastop = opcode op.instr) (hd : DecodedInv s) (hsrc : src ≠ .none)
    (hop : src ≠ .write → op = .xchg) (hcode : src = .short → code = 0) (hcount : src ≠ .short → count = 0)
    (hle : count.toNat ≤ 4) : Inv (complete (recordIoError src code count s)) := by
  refine IdleInv.inv ⟨rfl, rfl, by simp⟩ ?_ { hd with }
  exact {
    not_both := by simp [hc]
    error_done := by simp
    src_iff := by simpa using hsrc
    code_zero := by simpa [hsrc] using hcode
    count_zero := hcount
    count_le := hle
    cmderr_op := by simp [hc]
    done_op := fun _ _ => hl ▸ ok_opcodes op.instr
    write_op := fun _ => by
      show s.lastop = _ ∨ s.lastop = _
      rw [hl]
      cases op
      · exact .inl rfl
      · exact .inr rfl
    read_op := fun h => by
      have hx : op = .xchg := hop (by rintro rfl; simp at h)
      show s.lastop = _
      rw [hl, hx]
      rfl }

/-- SEND ends once its frame is written (R458). -/
theorem txAnswer_ok_send {s : State} (h : s.curop = some .send) :
    txAnswer .ok s = complete (sendPrefix Config.readSize s) := if_pos h

/-- XCHG waits for the reply once its frame is written (R458, R461). -/
theorem txAnswer_ok_xchg {s : State} (h : s.curop = some .xchg) :
    txAnswer .ok s = { sendPrefix Config.readSize s with timer := s.replyDelay, phase := .wait } :=
  if_neg (by simp [h])

theorem Inv.txAnswer {s : State} (h : Inv s) (hp : s.phase = .tx) (a : WriteAnswer) : Inv (txAnswer a s) := by
  have ht := h.transaction (by simp [hp])
  have hn := h.outcome.noError ht.not_done
  obtain ⟨op, hop, hl⟩ := ht.op
  cases a with
  | ok =>
    cases op with
    | send =>
      rw [txAnswer_ok_send hop]
      exact inv_complete hn hl { h.decoded with }
    | xchg =>
      rw [txAnswer_ok_xchg hop]
      refine TransactionInv.inv ?_ { h.outcome with } { h.decoded with }
      exact { ht with
        phase := by simp
        wait_xchg := fun _ => hop
        wait_timer := fun _ => rfl
        last_write := fun _ => ht.last_write (.inl hp)
        last_read := by simp }
  | err code reached =>
    obtain ⟨-, hc, -⟩ := hn
    exact inv_complete_recordIoError hc hl { h.decoded with } (by simp) (by simp) (by simp) (by simp) (by simp)

theorem Inv.waitEnd {s : State} (h : Inv s) (hp : s.phase = .wait) : Inv (request .read { s with phase := .rx }) := by
  have ht := h.transaction (by simp [hp])
  refine TransactionInv.inv ?_ { h.outcome with } { h.decoded with }
  exact { ht with
    phase := by simp
    wait_xchg := fun _ => ht.wait_xchg (.inl hp)
    wait_timer := by simp
    last_write := by simp
    last_read := by simp }

/-- A full reply is stored and decoded (R464). -/
theorem rxAnswer_full {k : Fin 6} (hk : k.val = Config.readSize) (buf : Frame) (s : State) :
    rxAnswer (.ok k buf) s = complete (writeDecoded buf { s with rxbuf := buf }) := if_pos hk

/-- A short reply is recorded with its count (R466). -/
theorem rxAnswer_short {k : Fin 6} (hk : k.val ≠ Config.readSize) (buf : Frame) (s : State) :
    rxAnswer (.ok k buf) s = complete (recordIoError .short 0 (BitVec.ofNat 3 k.val) s) := if_neg hk

theorem Inv.rxAnswer {s : State} (h : Inv s) (hp : s.phase = .rx) (a : ReadAnswer) : Inv (rxAnswer a s) := by
  have ht := h.transaction (by simp [hp])
  have hn := h.outcome.noError ht.not_done
  obtain ⟨op, hop, hl⟩ := ht.op
  have hx : op = .xchg := by simpa [hop] using ht.wait_xchg (.inr hp)
  have ⟨_, hc, _⟩ := hn
  cases a with
  | ok k buf =>
    by_cases hk : k.val = Config.readSize
    · rw [rxAnswer_full hk]
      exact inv_complete hn hl (decodedInv_writeDecoded _ _)
    · have hlt : k.val ≤ 4 := Nat.le_of_lt_succ (Nat.lt_of_le_of_ne (Nat.le_of_lt_succ k.isLt) hk)
      rw [rxAnswer_short hk]
      refine inv_complete_recordIoError hc hl h.decoded (by simp) (fun _ => hx) (by simp) (by simp) ?_
      exact (Nat.mod_le _ _).trans hlt
  | err code =>
    exact inv_complete_recordIoError hc hl h.decoded (by simp) (fun _ => hx) (by simp) (by simp) (by simp)

/-- Reset leads to the invariant from any state: only what the agents outside hold is left (R700). -/
theorem inv_resetBlock (s : State) : Inv (resetBlock s) :=
  have hn : NoError (resetBlock s) := ⟨rfl, rfl, rfl, rfl, rfl⟩
  IdleInv.inv ⟨rfl, rfl, fun _ => ⟨rfl, rfl⟩⟩ (hn.outcomeInv (by simp [State.reset]))
    ⟨rfl, fun _ => ⟨rfl, rfl, rfl, rfl, rfl, rfl⟩⟩

theorem StepCase.inv {i : Input} {s t : State} (h : Inv s) (hs : StepCase i s t) : Inv t := by
  cases hs with
  | fault f hi ht => exact ht ▸ h.outside _ _ _ _
  | host hi ht =>
    obtain ⟨hpc, obs, rfl⟩ := ht
    exact h.outside _ _ _ _
  | store r v hpc hi hb hr ht => exact ht ▸ (h.writeReg hb r v).outside _ _ _ _
  | command v u hpc hi hb hu ht => exact ht ▸ (h.issueCommand hb hu).outside _ _ _ _
  | tx a hi hp ht => exact ht ▸ h.txAnswer hp a
  | waited us hi hp hu ht => exact ht ▸ h.waitEnd hp
  | rx a hi hp ht => exact ht ▸ h.rxAnswer hp a
  | disabled hi hr ht => exact ht ▸ h
  | reset reached hi ht => exact ht ▸ inv_resetBlock _

/-- Settles O60: each kind of step that `StepCase` lists keeps the invariant. -/
theorem everyStepKeepsTheInvariant : Obligations.EveryStepKeepsTheInvariant := by
  intro s t h hst
  rcases step_cases hst with ⟨-, rfl⟩ | ⟨i, rest, -, hs⟩
  · exact h
  · exact hs.inv (h.outside rest _ _ _)

/-! ## CRC_ACC is outside the frame datapath -/

/-- The state with another accumulator. -/
def withCrcAcc (c : Byte) (s : State) : State := { s with crcAcc := c }

theorem txStep_withCrcAcc (c : Byte) (a : WriteAnswer) (s : State) :
    txStep a (withCrcAcc c s) = withCrcAcc c (txStep a s) := by
  cases a <;> simp only [txStep, txAnswer, apply_ite (withCrcAcc c)] <;> rfl

theorem waitStep_withCrcAcc (c : Byte) (us : Nat) (s : State) :
    waitStep us (withCrcAcc c s) = withCrcAcc c (waitStep us s) := by
  simp only [waitStep, apply_ite (withCrcAcc c)]
  rfl

theorem rxStep_withCrcAcc (c : Byte) (a : ReadAnswer) (s : State) :
    rxStep a (withCrcAcc c s) = withCrcAcc c (rxStep a s) := by
  cases a <;> simp only [rxStep, rxAnswer, apply_ite (withCrcAcc c)] <;> rfl

theorem exec_withCrcAcc (c : Byte) {i : Instr} (s : State) (h3 : i ≠ .crcinit) (h4 : ∀ b, i ≠ .crcbyte b) :
    exec i (withCrcAcc c s) = andThen (exec i s) (withCrcAcc c) := by
  cases i with
  | encode => rfl
  | decode => rfl
  | crcinit => exact absurd rfl h3
  | crcbyte imm => exact absurd rfl (h4 imm)
  | send => rfl
  | xchg => rfl

theorem runInput_withCrcAcc (c : Byte) {i : Input} (s : State) (hh : i.isHost = false) (hr : i.isReset = false) :
    runInput i (withCrcAcc c s) = andThen (runInput i s) (withCrcAcc c) := by
  cases i with
  | host a => cases hh
  | hostStmt => cases hh
  | writeAnswered a => exact congrArg _ (txStep_withCrcAcc c a s)
  | waitElapsed us => exact congrArg _ (waitStep_withCrcAcc c us s)
  | readAnswered a => exact congrArg _ (rxStep_withCrcAcc c a s)
  | reset reached => cases hr

/-- Settles O23: every arm and every sequencer step commutes with a change of the accumulator. -/
theorem crcAccIsOutsideTheFrameDatapath : Obligations.CrcAccIsOutsideTheFrameDatapath := fun s c =>
  ⟨fun _ h3 h4 => exec_withCrcAcc c s h3 h4, fun _ hh hr => runInput_withCrcAcc c s hh hr⟩

/-! ## Where results come from -/

/-- What no step but reset does: change the decoded packet to anything but the decoding of RXBUF, or TXBUF to anything
but the frame of the packet registers (R102, R109, R464). -/
def ResultsSourced (s t : State) : Prop :=
  (SameDecoded s t ∨ DecodedFrom t.rxbuf t) ∧
    (t.txbuf = s.txbuf ∨ t.txbuf = pack t.pktAddr t.pktPos t.pktKind t.pktStatus)

theorem resultsSourced_of_unchanged {s t : State} (hd : SameDecoded s t) (htx : t.txbuf = s.txbuf) :
    ResultsSourced s t := ⟨.inl hd, .inl htx⟩

theorem sameDecoded_refl (s : State) : SameDecoded s s := ⟨rfl, rfl, rfl, rfl, rfl, rfl, rfl, rfl⟩

theorem decodedFrom_writeDecoded (f : Frame) (s : State) : DecodedFrom f (writeDecoded f s) :=
  ⟨rfl, rfl, rfl, rfl, rfl, rfl, rfl, rfl⟩

/-- DECODE writes the decoded packet; ENCODE, SEND and XCHG write TXBUF; the CRC commands write neither. -/
theorem exec_resultsSourced {i : Instr} {s u : State} (hu : exec i s = .next u) : ResultsSourced s u := by
  cases i <;> cases hu
  case encode | send | xchg => exact ⟨.inl (sameDecoded_refl s), .inr rfl⟩
  case decode => exact ⟨.inr (decodedFrom_writeDecoded s.rxbuf s), .inl rfl⟩
  case crcinit | crcbyte => exact resultsSourced_of_unchanged (sameDecoded_refl s) rfl

theorem issueCommand_resultsSourced {v : Word} {s u : State} (hu : issueCommand v s = .next u) :
    ResultsSourced s u := by
  rcases issueCommand_cases v s with ⟨i, -, hi⟩ | ⟨opc, -, hr⟩
  · exact exec_resultsSourced (hi.symm.trans hu)
  · obtain rfl : reservedCommand opc s = u := by simpa [hu] using hr.symm
    exact resultsSourced_of_unchanged (sameDecoded_refl s) rfl

theorem writeReg_resultsSourced (r : Reg) (v : Word) (s : State) : ResultsSourced s (writeReg r v s) := by
  obtain ⟨a, p, k, st, rx, c, d, hw⟩ := writeReg_eq r v s
  rw [hw]
  exact resultsSourced_of_unchanged (sameDecoded_refl s) rfl

theorem txAnswer_resultsSourced (a : WriteAnswer) (s : State) : ResultsSourced s (txAnswer a s) := by
  cases a with
  | ok =>
    simp only [txAnswer]
    split <;> exact resultsSourced_of_unchanged (sameDecoded_refl s) rfl
  | err code reached => exact resultsSourced_of_unchanged (sameDecoded_refl s) rfl

/-- Only a full reply is decoded, and it is what RXBUF then holds (R464). -/
theorem rxAnswer_resultsSourced (a : ReadAnswer) (s : State) : ResultsSourced s (rxAnswer a s) := by
  cases a with
  | ok k buf =>
    by_cases hk : k.val = Config.readSize
    · rw [rxAnswer_full hk]
      exact ⟨.inr (decodedFrom_writeDecoded buf s), .inl rfl⟩
    · rw [rxAnswer_short hk]
      exact resultsSourced_of_unchanged (sameDecoded_refl s) rfl
  | err code => exact resultsSourced_of_unchanged (sameDecoded_refl s) rfl

theorem StepCase.resultsSourced {i : Input} {s t : State} (hr : i.isReset = false) (hs : StepCase i s t) :
    ResultsSourced s t := by
  cases hs with
  | fault f hi ht => exact ht ▸ resultsSourced_of_unchanged (sameDecoded_refl s) rfl
  | host hi ht =>
    obtain ⟨hpc, obs, rfl⟩ := ht
    exact resultsSourced_of_unchanged (sameDecoded_refl s) rfl
  | store r v hpc hi hb hr ht => exact ht ▸ writeReg_resultsSourced r v s
  | command v u hpc hi hb hu ht =>
    subst ht
    exact (issueCommand_resultsSourced hu : ResultsSourced s u)
  | tx a hi hp ht => exact ht ▸ txAnswer_resultsSourced a s
  | waited us hi hp hu ht => exact ht ▸ resultsSourced_of_unchanged (sameDecoded_refl s) rfl
  | rx a hi hp ht => exact ht ▸ rxAnswer_resultsSourced a s
  | disabled hi hr ht => exact ht ▸ resultsSourced_of_unchanged (sameDecoded_refl t) rfl
  | reset reached hi ht => simp [hi, Input.isReset] at hr

/-- Settles O54: each kind of step that `StepCase` lists, but reset, keeps results to their sources. -/
theorem resultsComeFromTheirSources : Obligations.ResultsComeFromTheirSources := by
  intro s t hr hst
  rcases step_cases hst with ⟨-, rfl⟩ | ⟨i, rest, hin, hs⟩
  · exact resultsSourced_of_unchanged (sameDecoded_refl t) rfl
  · have hi : i.isReset = false := by simpa [State.resetsNext, hin] using hr
    exact (hs.resultsSourced hi : ResultsSourced { s with inputs := rest } t)

/-- Settles O53: by O54 a step leaves the decoded packet, DECODED included, or decodes a frame, which sets DECODED. -/
theorem decodedIsClearedOnlyByReset : Obligations.DecodedIsClearedOnlyByReset := by
  intro s t hr hd hst
  rcases (resultsComeFromTheirSources s t hr hst).1 with ⟨-, -, -, -, -, -, -, h⟩ | ⟨-, -, -, -, -, -, -, h⟩
  · exact h.trans hd
  · exact h

/-! ## The register file: what each register reads as -/

/-- Concatenation as a number: the upper part weighted by the place of its lowest bit. -/
theorem toNat_append_eq_add {m n : Nat} (x : BitVec m) (y : BitVec n) :
    (x ++ y).toNat = x.toNat * 2 ^ n + y.toNat := by
  rw [BitVec.toNat_append, ← Nat.shiftLeft_add_eq_or_of_lt y.isLt, Nat.shiftLeft_eq]

@[simp] theorem toNat_flagBit (b : Bool) : (flagBit b).toNat = b.toNat := BitVec.toNat_ofBool b

theorem statusWord_toNat (s : State) : (statusWord s).toNat =
    s.busy.toNat + 2 * s.done.toNat + 4 * s.ioerr.toNat + 8 * s.cmderr.toNat + 16 * s.phase.code.toNat +
      256 * s.lastop.toNat := by
  simp only [statusWord, toNat_append_eq_add, toNat_flagBit, BitVec.toNat_ofNat]
  omega

theorem pktFlagsWord_toNat (s : State) : (pktFlagsWord s).toNat = s.pktStatus.toNat + 2 * s.pktKind.toNat := by
  simp only [pktFlagsWord, toNat_append_eq_add, BitVec.toNat_ofNat]
  omega

theorem dFlagsWord_toNat (s : State) : (dFlagsWord s).toNat =
    s.dStatus.toNat + 2 * s.dKind.toNat + 4 * s.dValid.toNat + 8 * s.dSyncOk.toNat + 16 * s.dCrcOk.toNat +
      32 * s.dDecoded.toNat := by
  simp only [dFlagsWord, toNat_append_eq_add, toNat_flagBit, BitVec.toNat_ofNat]
  omega

theorem ioerrInfoWord_toNat (s : State) : (ioerrInfoWord s).toNat =
    s.ioSrc.code.toNat + 16 * s.ioCount.toNat + 65536 * s.ioCode.toNat := by
  simp only [ioerrInfoWord, toNat_append_eq_add, BitVec.toNat_ofNat]
  omega

/-- Settles O30: the words of the flag registers are sums of their fields, and every other register is one field,
zero-extended. -/
theorem registersReadAsTheirFields : Obligations.RegistersReadAsTheirFields := by
  intro s
  have zext : ∀ {w : Nat} (x : BitVec w), w ≤ 32 → (x.setWidth 32).toNat = x.toNat :=
    fun _ h => BitVec.toNat_setWidth_of_le h
  refine ⟨rfl, (statusWord_toNat s).trans ?_, zext _ (by decide), zext _ (by decide), pktFlagsWord_toNat s,
    fun i => zext _ (by decide), fun i => zext _ (by decide), zext _ (by decide), zext _ (by decide),
    dFlagsWord_toNat s, zext _ (by decide), (ioerrInfoWord_toNat s).trans ?_, rfl⟩
  · cases s.phase <;> rfl
  · cases s.ioSrc <;> rfl

/-! ## The register file: what a write leaves -/

theorem get_set_same (f : Frame) (i : Fin 5) (b : Byte) : (f.set i b).get i = b := by
  fin_cases i <;> rfl

theorem get_set_ne (f : Frame) {i j : Fin 5} (h : j ≠ i) (b : Byte) : (f.set i b).get j = f.get j := by
  fin_cases i <;> fin_cases j <;> first | rfl | exact absurd rfl h

/-- The low bits of a word, zero-extended, are the word under their mask. -/
theorem setWidth_extractLsb'_zero {n : Nat} (hn : n ≤ 32) (v m : Word) (hm : m.toNat = 2 ^ n - 1) :
    (v.extractLsb' 0 n).setWidth 32 = v &&& m := by
  apply BitVec.eq_of_toNat_eq
  rw [BitVec.toNat_setWidth_of_le hn, BitVec.toNat_and, hm, Nat.and_two_pow_sub_one_eq_mod]
  simp

/-- An RW register reads back the written bits that it keeps. -/
theorem readReg_writeReg_same {r : Reg} (hr : r.access = .rw) (v : Word) (s : State) :
    readReg r (writeReg r v s) = v &&& r.writeMask := by
  cases r <;> try cases hr
  case pktAddr | pktPos | crcAcc => exact setWidth_extractLsb'_zero (by decide) v _ rfl
  case rxbuf i =>
    simp only [readReg, writeReg, get_set_same]
    exact setWidth_extractLsb'_zero (by decide) v _ rfl
  case pktFlags =>
    rw [← setWidth_extractLsb'_zero (n := 2) (by decide) v _ rfl]
    apply BitVec.eq_of_toNat_eq
    simp only [readReg, pktFlagsWord_toNat, writeReg, BitVec.extractLsb'_toNat, BitVec.toNat_setWidth]
    omega
  case replyDelay => exact BitVec.and_allOnes.symm

/-- A write to a register leaves every other register as it reads. -/
theorem readReg_writeReg_ne {q r : Reg} (hq : q ≠ r) (v : Word) (s : State) :
    readReg q (writeReg r v s) = readReg q s := by
  cases r with
  | rxbuf i =>
    cases q with
    | rxbuf j =>
      have hj : j ≠ i := fun h => hq (congrArg _ h)
      simp only [readReg, writeReg, get_set_ne _ hj]
    | _ => rfl
  | pktAddr | pktPos | pktFlags | crcAcc | replyDelay =>
    cases q <;> first | exact absurd rfl hq | rfl
  | _ => rfl

/-- No register shows what inputs are to come. -/
theorem readReg_inputs (q : Reg) (s : State) (l : List Input) : readReg q { s with inputs := l } = readReg q s := rfl

/-- CMD is the one write-only register. -/
theorem access_wo_iff (r : Reg) : r.access = .wo ↔ r = .cmd := by
  cases r <;> simp [Reg.access]

/-- An admitted write to a register with BUSY = 0 (R203). -/
theorem step_of_register_write {s : State} {r : Reg} {v : Word} {rest : List Input} (hb : s.busy = false)
    (h : s.inputs = .host (.write r.offset 4 v) :: rest) :
    step s = hostWrite r.offset v { s with inputs := rest } := by
  have ha : admitted r.offset 4 = true := admitted_offset r
  rw [step_of_inputs h]
  simp [runInput, hostAccess, ha, hb]

/-- Settles O32: a write to an RW register stores, and one to an RO register does nothing. -/
theorem registerReadsBackWhatWasWritten : Obligations.RegisterReadsBackWhatWasWritten := by
  intro s r v rest hb hr hin
  rw [step_of_register_write hb hin]
  simp only [hostWrite, regAt_offset]
  cases ha : r.access with
  | wo => exact absurd ((access_wo_iff r).mp ha) hr
  | ro => exact ⟨_, rfl, nofun, fun _ => rfl, fun _ _ => rfl⟩
  | rw =>
    exact ⟨_, rfl, fun _ => readReg_writeReg_same ha v _, nofun,
      fun q hq => (readReg_writeReg_ne hq v _).trans (readReg_inputs q s rest)⟩

/-! ## The register map and the CRC table -/

/-- The registers fill the aligned offsets up to 0x50. -/
theorem exists_reg_of_offset_le {off : Nat} (h4 : off % 4 = 0) (hle : off ≤ 0x50) : ∃ r : Reg, r.offset = off := by
  have rows : ∀ k : Fin 21, (regAt (4 * k.val)).map Reg.offset = some (4 * k.val) := by decide
  obtain ⟨r, -, hr⟩ := Option.map_eq_some_iff.mp (rows ⟨off / 4, by omega⟩)
  exact ⟨r, hr.trans (Nat.mul_div_cancel' (Nat.dvd_of_mod_eq_zero h4))⟩

theorem offset_injective {r q : Reg} (h : r.offset = q.offset) : r = q := by
  simpa using congrArg regAt h

theorem offset_aligned_and_le (r : Reg) : r.offset % 4 = 0 ∧ r.offset ≤ 0x50 := by
  cases r with
  | txbuf i | rxbuf i => simp only [Reg.offset]; omega
  | _ => exact ⟨by decide, by decide⟩

/-- The access codes of the table of R103, by offset. -/
theorem access_iff_offset (r : Reg) : (r.access = .wo ↔ r.offset = 0x00) ∧
    (r.access = .rw ↔ r.offset ∈ [0x08, 0x0C, 0x10, 0x28, 0x2C, 0x30, 0x34, 0x38, 0x48, 0x50]) ∧
    (r.access = .ro ↔ r.offset ∈ [0x04, 0x14, 0x18, 0x1C, 0x20, 0x24, 0x3C, 0x40, 0x44, 0x4C]) := by
  cases r with
  | txbuf i | rxbuf i => revert i; decide
  | _ => decide

/-- Settles O29: row by row, and the inverse `regAt` shows that no two registers share an offset. -/
theorem registerMapIsOneToOne : Obligations.RegisterMapIsOneToOne :=
  ⟨⟨rfl, rfl, rfl, rfl, rfl, fun _ => rfl, fun _ => rfl, rfl, rfl, rfl, rfl, rfl, rfl⟩, access_iff_offset,
    fun _ _ => offset_injective, offset_aligned_and_le,
    fun _ h4 _ => ⟨fun ⟨r, hr⟩ => hr ▸ (offset_aligned_and_le r).2, exists_reg_of_offset_le h4⟩⟩

/-- Row `hi`, column `lo` of the table as R403 lists it: a literal, compared with the bit-serial CRC of its index. -/
theorem crcTable_row_column : ∀ hi lo : BitVec 4, crcTable (hi ++ lo) = crc8Bitwise [hi ++ lo] := by decide

theorem nibbles_append (i : Byte) : i.extractLsb' 4 4 ++ i.extractLsb' 0 4 = i :=
  (BitVec.extractLsb'_append_extractLsb'_eq_extractLsb' (by decide)).trans BitVec.extractLsb'_eq_self

theorem length_crcRom : (crcRomLow ++ crcRomHigh).length = 256 := by
  have low : crcRomLow.length = 128 := rfl
  have high : crcRomHigh.length = 128 := rfl
  rw [List.length_append, low, high]

/-- Settles O11: every entry stands in some row and column. -/
theorem crcTableIsTheBitSerialCrc : Obligations.CrcTableIsTheBitSerialCrc := by
  refine ⟨fun i => ?_, rfl, rfl, rfl, length_crcRom⟩
  rw [← nibbles_append i]
  exact crcTable_row_column _ _

end Sys2Proof.Machine
end

section
/-! PROOFS. The host port and the channel: what a read returns, what a write stores, what each step asks of the channel
and puts on the wire, and that reads disturb no run. -/

namespace Sys2Proof.Machine

/-! ## The host port -/

/-- The offsets that R201 admits for a word access. -/
theorem admitted_word {off : Nat} (h4 : off % 4 = 0) (hlt : off < 0x80) : admitted off 4 = true := by
  simp [admitted, Config.accessBytes, Config.windowBytes, h4, hlt]

/-- An admitted read, as a step (R202). -/
theorem step_of_read {s : State} {off : Nat} {rest : List Input} (h4 : off % 4 = 0) (hlt : off < 0x80)
    (h : s.inputs = .host (.read off 4) :: rest) :
    step s = .next { s with inputs := rest, obs := s.obs ++ [⟨off, hostRead off { s with inputs := rest }⟩] } := by
  rw [step_of_inputs h]
  exact if_pos (admitted_word h4 hlt)

/-- An admitted write while BUSY = 1, as a step (R203, R622). -/
theorem step_of_write_busy {s : State} {off : Nat} {v : Word} {rest : List Input} (h4 : off % 4 = 0)
    (hlt : off < 0x80) (hb : s.busy = true) (h : s.inputs = .host (.write off 4 v) :: rest) :
    step s = .next { s with inputs := rest, faults := s.faults ++ [.fBusyWrite off v] } := by
  rw [step_of_inputs h]
  exact (if_pos (admitted_word h4 hlt)).trans (if_pos hb)

/-- An admitted write while BUSY = 0, as a step (R203). -/
theorem step_of_write {s : State} {off : Nat} {v : Word} {rest : List Input} (h4 : off % 4 = 0)
    (hlt : off < 0x80) (hb : s.busy = false) (h : s.inputs = .host (.write off 4 v) :: rest) :
    step s = hostWrite off v { s with inputs := rest } := by
  rw [step_of_inputs h]
  exact (if_pos (admitted_word h4 hlt)).trans (if_neg (by simp [hb]))

/-- A word of the opcode map issues its command. -/
theorem issueCommand_of_instr {v : Word} {i : Instr} (h : decodeWord v = .instr i) (s : State) :
    issueCommand v s = exec i s := by
  simp [issueCommand, h]

theorem decodeWord_tableWord {nbits w : Nat} {i : Instr} (h : decodeTableWord nbits w = some i) :
    decodeWord (tableWord nbits w) = .instr i := by
  unfold decodeTableWord at h
  split at h
  next j hj => simpa [hj] using h
  next => cases h

/-- Settles O4: the write of `withFetchWord` is a write to CMD, and such a write issues the command of its word. -/
theorem stepRunsTheDecodedCommand : Obligations.StepRunsTheDecodedCommand := by
  refine ⟨fun s w i rest hb hw hin => ?_, fun s nbits w i hb hw => ?_⟩
  · rw [step_of_command hb hin, issueCommand_of_instr hw]
  · have hin : (s.withFetchWord nbits w).inputs = .host (.write 0x00 4 (tableWord nbits w)) :: s.inputs := rfl
    rw [step_of_command (s := s.withFetchWord nbits w) hb hin, issueCommand_of_instr (decodeWord_tableWord hw)]
    rfl

/-- The register found at an offset has that offset. -/
theorem offset_of_regAt {off : Nat} {r : Reg} (h : regAt off = some r) : r.offset = off := by
  unfold regAt at h
  split at h <;> cases h <;> rfl

/-- No register stands beyond REPLY_DELAY (R117). -/
theorem regAt_of_reserved {off : Nat} (h : 0x50 < off) : regAt off = none := by
  cases hr : regAt off with
  | none => rfl
  | some r =>
    have hoff := offset_of_regAt hr
    have hle := (offset_aligned_and_le r).2
    omega

theorem hostRead_offset (r : Reg) (s : State) : hostRead r.offset s = readReg r s := by
  simp [hostRead]

theorem hostRead_of_reserved {off : Nat} (h : 0x50 < off) (s : State) : hostRead off s = 0 := by
  simp [hostRead, regAt_of_reserved h]

/-- Settles O28: the value is what `hostRead` finds, which no other input shows in. -/
theorem readReturnsTheRegister : Obligations.ReadReturnsTheRegister := by
  intro s rest off h4 hlt hin
  refine ⟨_, step_of_read h4 hlt hin, ?_, ?_⟩
  · rintro r rfl
    rw [hostRead_offset, readReg_inputs]
  · rintro (rfl | hge)
    · rfl
    · exact hostRead_of_reserved (by omega) _

/-- Settles O31: word by word of the window, whose 32 aligned offsets are the multiples of 4 below 0x80. -/
theorem writeStoresTheDefinedFields : Obligations.WriteStoresTheDefinedFields := by
  intro s rest off v h4 hlt hin
  refine ⟨fun hb => step_of_write_busy h4 hlt hb hin, fun hb => ?_⟩
  rw [step_of_write h4 hlt hb hin]
  obtain ⟨k, rfl⟩ : ∃ k : Fin 32, off = 4 * k.val := ⟨⟨off / 4, by omega⟩, by simp only; omega⟩
  fin_cases k <;> rfl

/-! ## The channel: requests and the wire -/

/-- What a command does outside the block: it takes no input and puts nothing on the wire, and it moves the phase and
makes a request only where it enters TX, and then for the write of TXBUF (R455, R458). -/
def CommandOutside (s u : State) : Prop :=
  u.inputs = s.inputs ∧ u.wire = s.wire ∧
    ((u.chanReqs = s.chanReqs ∧ u.phase = s.phase) ∨ (u.chanReqs = s.chanReqs ++ [.write u.txbuf] ∧ u.phase = .tx))

theorem exec_outside {i : Instr} {s u : State} (hu : exec i s = .next u) : CommandOutside s u := by
  cases i <;> cases hu
  case encode | decode | crcinit | crcbyte => exact ⟨rfl, rfl, .inl ⟨rfl, rfl⟩⟩
  case send | xchg => exact ⟨rfl, rfl, .inr ⟨rfl, rfl⟩⟩

theorem issueCommand_outside {v : Word} {s u : State} (hu : issueCommand v s = .next u) : CommandOutside s u := by
  rcases issueCommand_cases v s with ⟨i, -, hi⟩ | ⟨opc, -, hr⟩
  · exact exec_outside (hi.symm.trans hu)
  · obtain rfl : reservedCommand opc s = u := by simpa [hu] using hr.symm
    exact ⟨rfl, rfl, .inl ⟨rfl, rfl⟩⟩

/-- The answer to a write takes no input and makes no request, and leads to IDLE or WAIT (R458). -/
theorem txAnswer_outside (a : WriteAnswer) (s : State) :
    (txAnswer a s).inputs = s.inputs ∧ (txAnswer a s).chanReqs = s.chanReqs ∧
      ((txAnswer a s).phase = .idle ∨ (txAnswer a s).phase = .wait) := by
  cases a with
  | ok =>
    simp only [txAnswer]
    split
    · exact ⟨rfl, rfl, .inl rfl⟩
    · exact ⟨rfl, rfl, .inr rfl⟩
  | err code reached => exact ⟨rfl, rfl, .inl rfl⟩

/-- The answer to a read takes no input, makes no request, puts nothing on the wire, and leads to IDLE (R464 to
R466). -/
theorem rxAnswer_outside (a : ReadAnswer) (s : State) :
    (rxAnswer a s).inputs = s.inputs ∧ (rxAnswer a s).chanReqs = s.chanReqs ∧ (rxAnswer a s).wire = s.wire ∧
      (rxAnswer a s).phase = .idle := by
  cases a with
  | ok k buf =>
    by_cases hk : k.val = Config.readSize
    · rw [rxAnswer_full hk]
      exact ⟨rfl, rfl, rfl, rfl⟩
    · rw [rxAnswer_short hk]
      exact ⟨rfl, rfl, rfl, rfl⟩
  | err code => exact ⟨rfl, rfl, rfl, rfl⟩

/-- Reset takes no input and makes no request, and leads to IDLE (R700, R701). -/
theorem resetStep_outside (reached : Fin 6) (s : State) :
    (resetStep reached s).inputs = s.inputs ∧ (resetStep reached s).chanReqs = s.chanReqs ∧
      (resetStep reached s).phase = .idle := by
  unfold resetStep
  split <;> exact ⟨rfl, rfl, rfl⟩

/-- How many bytes of TXBUF are on the wire once a write is answered: all if it was accepted (R452). -/
def WriteAnswer.sent : WriteAnswer → Fin 6
  | .ok => 5
  | .err _ reached => reached

theorem txAnswer_wire (a : WriteAnswer) (s : State) :
    (txAnswer a s).wire = s.wire ++ s.txbuf.bytes.take a.sent.val := by
  cases a with
  | ok =>
    simp only [txAnswer]
    split <;> rfl
  | err code reached => rfl

/-- Only a reset in TX interrupts a write (R701). -/
theorem resetStep_wire (reached : Fin 6) (s : State) :
    (resetStep reached s).wire = if s.phase = .tx then s.wire ++ s.txbuf.bytes.take reached.val else s.wire := by
  simp only [resetStep, resetBlock_wire, apply_ite State.wire]
  rfl

/-- A step makes no request and enters neither TX from IDLE nor RX from WAIT, or does one of the two and makes the
request that belongs to it (R458, R462). -/
def RequestsTied (s t : State) : Prop :=
  (t.chanReqs = s.chanReqs ∧ ¬(s.phase = .idle ∧ t.phase = .tx) ∧ ¬(s.phase = .wait ∧ t.phase = .rx)) ∨
    (s.phase = .idle ∧ t.phase = .tx ∧ t.chanReqs = s.chanReqs ++ [.write t.txbuf]) ∨
    (s.phase = .wait ∧ t.phase = .rx ∧ t.chanReqs = s.chanReqs ++ [.read])

/-- A step with no request that stays in its phase or enters IDLE or WAIT. -/
theorem requestsTied_of_no_request {s t : State} (hc : t.chanReqs = s.chanReqs)
    (hp : t.phase = s.phase ∨ t.phase = .idle ∨ t.phase = .wait) : RequestsTied s t := by
  refine .inl ⟨hc, ?_, ?_⟩ <;> rintro ⟨h, h'⟩ <;> simp [h, h'] at hp

theorem StepCase.requestsTied {i : Input} {s t : State} (h : Inv s) (hs : StepCase i s t) : RequestsTied s t := by
  cases hs with
  | fault f hi ht => exact ht ▸ requestsTied_of_no_request rfl (.inl rfl)
  | host hi ht =>
    obtain ⟨hpc, obs, rfl⟩ := ht
    exact requestsTied_of_no_request rfl (.inl rfl)
  | store r v hpc hi hb hr ht =>
    obtain ⟨a, p, k, st, rx, c, d, hw⟩ := writeReg_eq r v s
    rw [ht, hw]
    exact requestsTied_of_no_request rfl (.inl rfl)
  | command v u hpc hi hb hu ht =>
    subst ht
    obtain ⟨-, -, ⟨hc, hp⟩ | ⟨hc, hp⟩⟩ := issueCommand_outside hu
    · exact requestsTied_of_no_request hc (.inl hp)
    · exact .inr (.inl ⟨(h.idle hb).phase, hp, hc⟩)
  | tx a hi hp ht =>
    obtain ⟨-, hc, hp'⟩ := txAnswer_outside a s
    exact ht ▸ requestsTied_of_no_request hc (.inr hp')
  | waited us hi hp hu ht => exact ht ▸ .inr (.inr ⟨hp, rfl, rfl⟩)
  | rx a hi hp ht =>
    obtain ⟨-, hc, -, hp'⟩ := rxAnswer_outside a s
    exact ht ▸ requestsTied_of_no_request hc (.inr (.inl hp'))
  | disabled hi hr ht => exact ht ▸ requestsTied_of_no_request rfl (.inl rfl)
  | reset reached hi ht =>
    obtain ⟨-, hc, hp'⟩ := resetStep_outside reached s
    exact ht ▸ requestsTied_of_no_request hc (.inr (.inl hp'))

/-- Settles O41: of the steps that `StepCase` lists, only a command and a WAIT end make a request, and BUSY = 0 and the
invariant put the command in IDLE. -/
theorem channelSeesOneWriteThenOneRead : Obligations.ChannelSeesOneWriteThenOneRead := by
  intro s t h hst
  rcases step_cases hst with ⟨-, rfl⟩ | ⟨i, rest, -, hs⟩
  · exact requestsTied_of_no_request rfl (.inl rfl)
  · exact (hs.requestsTied (h.outside rest _ _ _) : RequestsTied { s with inputs := rest } t)

/-- What the step of an input adds to the wire: nothing, or in TX the first bytes of TXBUF (R452, R701). -/
theorem StepCase.wire {i : Input} {s t : State} (hs : StepCase i s t) :
    t.wire = s.wire ∨
      (s.phase = .tx ∧ ∃ k : Fin 6, t.wire = s.wire ++ s.txbuf.bytes.take k.val ∧
        ((∃ a, i = .writeAnswered a ∧ k = a.sent) ∨ i = .reset k)) := by
  cases hs with
  | fault f hi ht => exact ht ▸ .inl rfl
  | host hi ht =>
    obtain ⟨hpc, obs, rfl⟩ := ht
    exact .inl rfl
  | store r v hpc hi hb hr ht =>
    obtain ⟨a, p, k, st, rx, c, d, hw⟩ := writeReg_eq r v s
    rw [ht, hw]
    exact .inl rfl
  | command v u hpc hi hb hu ht =>
    obtain ⟨-, hw, -⟩ := issueCommand_outside hu
    exact ht ▸ .inl hw
  | tx a hi hp ht => exact ht ▸ .inr ⟨hp, a.sent, txAnswer_wire a s, .inl ⟨a, hi, rfl⟩⟩
  | waited us hi hp hu ht => exact ht ▸ .inl rfl
  | rx a hi hp ht =>
    obtain ⟨-, -, hw, -⟩ := rxAnswer_outside a s
    exact ht ▸ .inl hw
  | disabled hi hr ht => exact ht ▸ .inl rfl
  | reset reached hi ht =>
    rw [ht, resetStep_wire]
    split
    next hp => exact .inr ⟨hp, reached, rfl, .inr hi⟩
    next => exact .inl rfl

/-- Settles O42: `StepCase.wire`, with the input at the head of those that wait. -/
theorem wireCarriesPrefixesOfTxbuf : Obligations.WireCarriesPrefixesOfTxbuf := by
  intro s t hst
  rcases step_cases hst with ⟨-, rfl⟩ | ⟨i, rest, hin, hs⟩
  · exact .inl rfl
  · rcases hs.wire with hw | ⟨hp, k, hw, hk⟩
    · exact .inl hw
    · refine .inr ⟨hp, k, hw, ?_⟩
      rcases hk with ⟨a, rfl, rfl⟩ | rfl
      · refine ⟨fun ha => ?_, .inl ⟨a, by simp [hin]⟩⟩
        obtain rfl : a = .ok := by simpa [hin] using ha
        rfl
      · exact ⟨by simp [hin], .inr (by simp [State.resetsNext, hin, Input.isReset])⟩

/-! ## Reads disturb no run -/

theorem exec_total (i : Instr) (s : State) : ∃ t, exec i s = .next t := by
  cases i <;> exact ⟨_, rfl⟩

theorem issueCommand_total (v : Word) (s : State) : ∃ t, issueCommand v s = .next t := by
  rcases issueCommand_cases v s with ⟨i, -, hi⟩ | ⟨opc, -, hr⟩
  · exact hi ▸ exec_total i s
  · exact ⟨_, hr⟩

theorem hostWrite_total (off : Nat) (v : Word) (s : State) : ∃ t, hostWrite off v s = .next t := by
  rcases hostWrite_cases off v s with h | ⟨r, -, -, h⟩ | ⟨-, h⟩
  · exact ⟨_, h⟩
  · exact ⟨_, h⟩
  · exact h ▸ issueCommand_total v s

theorem hostAccess_total (a : HostAccess) (s : State) : ∃ t, hostAccess a s = .next t := by
  rcases hostAccess_cases a s with ⟨f, h⟩ | ⟨off, v, h⟩ | ⟨off, v, -, h⟩
  · exact ⟨_, h⟩
  · exact ⟨_, h⟩
  · exact h ▸ hostWrite_total off v s

theorem rdStmt_next (r : Reg) (k : State → State) (s : State) :
    rdStmt r k s = .next (k (observe r.offset (readReg r s) s)) := by
  simp [rdStmt]

theorem wrStmt_total (off : Nat) (v : Word) (s : State) : ∃ t, wrStmt off v s = .next t := by
  obtain ⟨t, ht⟩ := hostAccess_total (.write off Config.accessBytes v) s
  simp only [wrStmt, ht, andThen_next]
  split <;> exact ⟨_, rfl⟩

theorem runStmt_total (st : Stmt) (s : State) : ∃ t, runStmt st s = .next t := by
  cases st with
  | wr r v => exact wrStmt_total r.offset v s
  | cmd i => exact wrStmt_total _ _ s
  | rd r => exact ⟨_, rdStmt_next r _ s⟩
  | poll => exact ⟨_, rdStmt_next .status _ s⟩
  | jeq f v l | jne f v l => exact ⟨_, rdStmt_next f.reg _ s⟩
  | label l | jmp l | halt => exact ⟨_, rfl⟩

theorem hostStmt_total (s : State) : ∃ t, hostStmt s = .next t := by
  unfold hostStmt
  split
  · exact runStmt_total _ s
  · exact ⟨s, rfl⟩

/-- Every input's step answers a next state (R332, R620). -/
theorem runInput_total (i : Input) (s : State) : ∃ t, runInput i s = .next t := by
  cases i with
  | host a => exact hostAccess_total a s
  | hostStmt => exact hostStmt_total s
  | writeAnswered a | waitElapsed us | readAnswered a | reset reached => exact ⟨_, rfl⟩

/-- The step of an input takes no further input. -/
theorem StepCase.inputs {i : Input} {s t : State} (hs : StepCase i s t) : t.inputs = s.inputs := by
  cases hs with
  | fault f hi ht => exact ht ▸ rfl
  | host hi ht =>
    obtain ⟨hpc, obs, rfl⟩ := ht
    rfl
  | store r v hpc hi hb hr ht =>
    obtain ⟨a, p, k, st, rx, c, d, hw⟩ := writeReg_eq r v s
    rw [ht, hw]
  | command v u hpc hi hb hu ht => exact ht ▸ (issueCommand_outside hu).1
  | tx a hi hp ht => exact ht ▸ (txAnswer_outside a s).1
  | waited us hi hp hu ht => exact ht ▸ rfl
  | rx a hi hp ht => exact ht ▸ (rxAnswer_outside a s).1
  | disabled hi hr ht => exact ht ▸ rfl
  | reset reached hi ht => exact ht ▸ (resetStep_outside reached s).1

/-- The state but for the inputs to come and what the host has seen, which no step reads. -/
def unobserved (s : State) : State := { s with inputs := [], obs := [] }

/-- A step looks the same in two states that differ in the inputs to come and in what the host has seen alone. -/
def Blind (o : State → Host.Outcome State Fault Refusal) : Prop :=
  ∀ s, andThen (o (unobserved s)) unobserved = andThen (o s) unobserved

/-- An outcome commutes with `unobserved` where the step neither reads nor writes what it erases. -/
theorem blind_of_commutes {o : State → Host.Outcome State Fault Refusal}
    (h : ∀ s, o (unobserved s) = andThen (o s) unobserved) : Blind o := by
  intro s
  rw [h]
  cases o s <;> rfl

theorem Blind.andThen {o : State → Host.Outcome State Fault Refusal} (h : Blind o) {f : State → State}
    (hf : ∀ s, f (unobserved s) = unobserved (f s)) : Blind (fun s => andThen (o s) f) := by
  have swap (x : Host.Outcome State Fault Refusal) :
      Machine.andThen (Machine.andThen x f) unobserved = Machine.andThen (Machine.andThen x unobserved) f := by
    cases x with
    | next s => exact congrArg _ (hf s).symm
    | fault r => rfl
    | refused r => rfl
  intro s
  simp only [swap, h s]

theorem exec_unobserved (i : Instr) (s : State) : exec i (unobserved s) = andThen (exec i s) unobserved := by
  cases i <;> rfl

theorem issueCommand_unobserved (v : Word) (s : State) :
    issueCommand v (unobserved s) = andThen (issueCommand v s) unobserved := by
  unfold issueCommand
  cases decodeWord v with
  | instr i => exact exec_unobserved i s
  | reserved opc => rfl

theorem writeReg_unobserved (r : Reg) (v : Word) (s : State) :
    writeReg r v (unobserved s) = unobserved (writeReg r v s) := by
  cases r <;> rfl

theorem hostWrite_unobserved (off : Nat) (v : Word) (s : State) :
    hostWrite off v (unobserved s) = andThen (hostWrite off v s) unobserved := by
  unfold hostWrite
  cases regAt off with
  | none => rfl
  | some r =>
    dsimp only
    cases r.access with
    | wo => exact issueCommand_unobserved v s
    | ro => rfl
    | rw => exact congrArg _ (writeReg_unobserved r v s)

/-- A read shows in nothing but what it returned (R202). -/
theorem unobserved_observe (off : Nat) (v : Word) (s : State) : unobserved (observe off v s) = unobserved s := rfl

theorem hostAccess_blind (a : HostAccess) : Blind (hostAccess a) := by
  cases a with
  | read off n =>
    intro s
    simp only [hostAccess]
    split <;> rfl
  | write off n v =>
    refine blind_of_commutes fun s => ?_
    simp only [hostAccess]
    split
    · cases hb : s.busy with
      | true => simp [unobserved, hb, raiseFault]
      | false => simpa [unobserved, hb] using hostWrite_unobserved off v s
    · rfl

theorem advance_unobserved (s : State) : advance (unobserved s) = unobserved (advance s) := rfl

theorem fieldIs_unobserved (f : Field) (v : Word) (s : State) : fieldIs f v (unobserved s) = fieldIs f v s := by
  simp only [fieldIs, hostRead_offset]
  cases f.reg <;> rfl

theorem wrStmt_blind (off : Nat) (v : Word) : Blind (wrStmt off v) := by
  intro s
  have hb : (unobserved s).busy = s.busy := rfl
  simp only [wrStmt, hb]
  split
  · exact hostAccess_blind _ s
  · exact (hostAccess_blind _).andThen advance_unobserved s

/-- After a read the host goes on as it would have without the record of what it read. -/
theorem rdStmt_blind (r : Reg) {k : State → State → State} (hk : ∀ s, k (unobserved s) = k s)
    (hc : ∀ s u, k s (unobserved u) = unobserved (k s u)) : Blind (fun s => rdStmt r (k s) s) := by
  intro s
  simp only [rdStmt_next, andThen_next, ← hc, unobserved_observe, hk]
  rfl

theorem runStmt_blind (st : Stmt) : Blind (runStmt st) := by
  cases st with
  | wr r v => exact wrStmt_blind r.offset v
  | cmd i => exact wrStmt_blind Reg.cmd.offset (encodeWord i)
  | rd r => exact rdStmt_blind r (fun _ => rfl) (fun _ => advance_unobserved)
  | poll =>
    refine rdStmt_blind .status (fun s => ?_) (fun s u => ?_)
    · rw [fieldIs_unobserved]
    · split <;> rfl
  | jeq f v l | jne f v l =>
    refine rdStmt_blind f.reg (fun s => ?_) (fun s u => ?_)
    · rw [fieldIs_unobserved]
    · split <;> rfl
  | label l | jmp l | halt => exact fun _ => rfl

theorem hostStmt_blind : Blind hostStmt := by
  intro s
  have hst : (unobserved s).prog[(unobserved s).hpc]? = s.prog[s.hpc]? := rfl
  unfold hostStmt
  rw [hst]
  split
  · exact runStmt_blind _ s
  · rfl

theorem txStep_unobserved (a : WriteAnswer) (s : State) : txStep a (unobserved s) = unobserved (txStep a s) := by
  cases a <;> simp only [txStep, txAnswer, apply_ite unobserved] <;> rfl

theorem waitStep_unobserved (us : Nat) (s : State) : waitStep us (unobserved s) = unobserved (waitStep us s) := by
  simp only [waitStep, apply_ite unobserved]
  rfl

theorem rxStep_unobserved (a : ReadAnswer) (s : State) : rxStep a (unobserved s) = unobserved (rxStep a s) := by
  cases a <;> simp only [rxStep, rxAnswer, apply_ite unobserved] <;> rfl

theorem resetStep_unobserved (reached : Fin 6) (s : State) :
    resetStep reached (unobserved s) = unobserved (resetStep reached s) := by
  simp only [resetStep, apply_ite resetBlock, apply_ite unobserved]
  rfl

theorem runInput_blind (i : Input) : Blind (runInput i) := by
  cases i with
  | host a => exact hostAccess_blind a
  | hostStmt => exact hostStmt_blind
  | writeAnswered a => exact blind_of_commutes fun s => congrArg _ (txStep_unobserved a s)
  | waitElapsed us => exact blind_of_commutes fun s => congrArg _ (waitStep_unobserved us s)
  | readAnswered a => exact blind_of_commutes fun s => congrArg _ (rxStep_unobserved a s)
  | reset reached => exact blind_of_commutes fun s => congrArg _ (resetStep_unobserved reached s)

/-- A step with an input waiting answers a next state, with that input gone. -/
theorem exists_step {s : State} {i : Input} {rest : List Input} (h : s.inputs = i :: rest) :
    ∃ t, step s = .next t ∧ t.inputs = rest := by
  obtain ⟨t, ht⟩ := runInput_total i { s with inputs := rest }
  exact ⟨t, (step_of_inputs h).trans ht, (runInput_cases ht).inputs⟩

/-- The same input in two states that differ in the inputs to come and in what the host has seen alone. -/
theorem unobserved_eq_of_step {s s' t t' : State} {i : Input} {rest rest' : List Input}
    (h : s.inputs = i :: rest) (h' : s'.inputs = i :: rest') (hss : unobserved s = unobserved s')
    (ht : step s = .next t) (ht' : step s' = .next t') : unobserved t = unobserved t' := by
  have hs := runInput_blind i { s with inputs := rest }
  have hs' := runInput_blind i { s' with inputs := rest' }
  rw [← step_of_inputs h, ht, andThen_next] at hs
  rw [← step_of_inputs h', ht', andThen_next] at hs'
  have hb : unobserved { s with inputs := rest } = unobserved { s' with inputs := rest' } := hss
  rw [hb, hs'] at hs
  exact (Host.Outcome.next.inj hs).symm

theorem exists_of_isRead {i : Input} (h : i.isRead = true) :
    ∃ off n, i = .host (.read off n) ∧ admitted off n = true := by
  cases i with
  | host a =>
    cases a with
    | read off n => exact ⟨off, n, rfl, h⟩
    | write off n v => cases h
  | _ => cases h

/-- An admitted read changes nothing but the inputs to come and what the host has seen (R202). -/
theorem unobserved_step_of_isRead {s t : State} {i : Input} {rest : List Input} (h : s.inputs = i :: rest)
    (hi : i.isRead = true) (ht : step s = .next t) : unobserved t = unobserved s := by
  obtain ⟨off, n, rfl, ha⟩ := exists_of_isRead hi
  rw [step_of_inputs h] at ht
  simp only [runInput, hostAccess, ha, if_true, Host.Outcome.next.injEq] at ht
  exact ht ▸ unobserved_observe off _ _

/-- The run of a list of inputs and the run without its reads, from states that differ in the inputs to come and in
what the host has seen alone. -/
theorem runs_agree_without_reads {l : List Input} {s s' : State} (h : s.inputs = l)
    (h' : s'.inputs = l.filter (fun i => !i.isRead)) (hss : unobserved s = unobserved s') :
    ∃ t u, runSteps l.length s = .next t ∧ runSteps (l.filter (fun i => !i.isRead)).length s' = .next u ∧
      t.inputs = u.inputs ∧ unobserved t = unobserved u := by
  induction l generalizing s s' with
  | nil => exact ⟨s, s', rfl, rfl, h.trans h'.symm, hss⟩
  | cons i rest ih =>
    obtain ⟨t, ht, hti⟩ := exists_step h
    cases hi : i.isRead with
    | true =>
      have hf : (i :: rest).filter (fun i => !i.isRead) = rest.filter (fun i => !i.isRead) := by simp [hi]
      rw [hf] at h' ⊢
      simpa only [List.length_cons, runSteps_succ _ ht] using
        ih hti h' ((unobserved_step_of_isRead h hi ht).trans hss)
    | false =>
      have hf : (i :: rest).filter (fun i => !i.isRead) = i :: rest.filter (fun i => !i.isRead) := by simp [hi]
      rw [hf] at h' ⊢
      obtain ⟨t', ht', hti'⟩ := exists_step h'
      simpa only [List.length_cons, runSteps_succ _ ht, runSteps_succ _ ht'] using
        ih hti hti' (unobserved_eq_of_step h h' hss ht ht')

/-- Settles O48, by induction on the inputs: a read leaves the state as it was but for what the host has seen, and no
other input's step depends on that. -/
theorem readsDoNotDisturbARun : Obligations.ReadsDoNotDisturbARun := by
  intro s
  obtain ⟨t, u, ht, hu, hin, htu⟩ := runs_agree_without_reads (s := s) (s' := { s with inputs := _ }) rfl rfl rfl
  refine ⟨t, u, ht, hu, ?_⟩
  calc { t with obs := [] } = { unobserved t with inputs := t.inputs } := rfl
    _ = { unobserved u with inputs := u.inputs } := by rw [htu, hin]
    _ = { u with obs := [] } := rfl

end Sys2Proof.Machine
end

section
/-! PROOFS. The command word, the commands in their issuing step, the packed frame, and the CRC commands. -/

namespace Sys2Proof.Machine

/-! ## The command word: which words are a command's -/

/-- A word decodes to a command exactly when its OPC is the command's, and for CRCBYTE its IMM8 is the operand. -/
theorem decodeWord_eq_instr_iff (w : Word) (i : Instr) :
    decodeWord w = .instr i ↔ opcField w = opcode i ∧ ∀ b, i = .crcbyte b → immField w = b := by
  constructor
  · intro h
    unfold decodeWord at h
    split_ifs at h with h1 h2 h3 h4 h5 h6 <;> cases h
    · exact ⟨h1, nofun⟩
    · exact ⟨h2, nofun⟩
    · exact ⟨h3, nofun⟩
    · exact ⟨h4, fun _ => Instr.crcbyte.inj⟩
    · exact ⟨h5, nofun⟩
    · exact ⟨h6, nofun⟩
  · rintro ⟨hop, himm⟩
    cases i with
    | crcbyte b => simp [decodeWord, hop, opcode, himm b rfl]
    | _ => simp [decodeWord, hop, opcode]

/-- The bits of OPC alone. -/
theorem and_opcMask_eq_iff (w : Word) (c : Byte) : w &&& 0x000000FF = 0#16 ++ 0x00#8 ++ c ↔ opcField w = c := by
  rw [← setWidth_extractLsb'_zero (n := 8) (by decide) w _ rfl]
  simp only [← BitVec.toNat_inj, opcField, toNat_append_eq_add, BitVec.toNat_setWidth, BitVec.toNat_ofNat]
  omega

/-- The bits of OPC and IMM8. -/
theorem and_immOpcMask_eq_iff (w : Word) (b c : Byte) :
    w &&& 0x0000FFFF = 0#16 ++ b ++ c ↔ opcField w = c ∧ immField w = b := by
  rw [← setWidth_extractLsb'_zero (n := 16) (by decide) w _ rfl]
  simp only [← BitVec.toNat_inj, opcField, immField, toNat_append_eq_add, BitVec.toNat_setWidth, BitVec.toNat_ofNat,
    BitVec.extractLsb'_toNat, Nat.shiftRight_eq_div_pow]
  omega

/-- A word holds a command's word under the command's mask exactly when its fields are the command's. -/
theorem and_fieldMask_eq_encodeWord_iff (w : Word) (i : Instr) :
    w &&& fieldMask i = encodeWord i ↔ opcField w = opcode i ∧ ∀ b, i = .crcbyte b → immField w = b := by
  cases i with
  | crcbyte b => exact (and_immOpcMask_eq_iff w b 0x04).trans (by simp [opcode])
  | encode | decode | crcinit | send | xchg => exact (and_opcMask_eq_iff w _).trans (by simp)

theorem encoding_statement (i : Instr) : Laws.Encoding.Statement i := by
  cases i with
  | encode => exact Laws.Encoding.encode
  | decode => exact Laws.Encoding.decode
  | crcinit => exact Laws.Encoding.crcinit
  | crcbyte b => exact Laws.Encoding.crcbyte b
  | send => exact Laws.Encoding.send
  | xchg => exact Laws.Encoding.xchg

theorem decodeWord_eq_instr_iff_mask (w : Word) (i : Instr) :
    decodeWord w = .instr i ↔ w &&& fieldMask i = encodeWord i :=
  (decodeWord_eq_instr_iff w i).trans (and_fieldMask_eq_encodeWord_iff w i).symm

theorem decodeWord_encodeWord (i : Instr) : decodeWord (encodeWord i) = .instr i := by
  obtain ⟨-, -, -, hmask⟩ := encoding_statement i
  exact (decodeWord_eq_instr_iff_mask _ i).mpr hmask

/-- Settles O2: both sides of the mask characterisation say what the fields of the word are. -/
theorem decodeInvertsEncode : Obligations.DecodeInvertsEncode := fun i _ =>
  ⟨decodeWord_encodeWord i, fun w => decodeWord_eq_instr_iff_mask w i⟩

/-- Settles O1, by evaluating the decoder at the twelve words. -/
theorem opcodeMapWordsDecode : Obligations.OpcodeMapWordsDecode := by
  unfold Obligations.OpcodeMapWordsDecode
  decide

/-! ## The command word: ignored bits and reserved opcodes -/

/-- The decoder reads OPC, and IMM8 where OPC is CRCBYTE's (R331). -/
theorem decodeWord_congr {v w : Word} (hop : opcField v = opcField w)
    (himm : opcField v = 0x04 → immField v = immField w) : decodeWord v = decodeWord w := by
  unfold decodeWord
  rw [← hop]
  by_cases h4 : opcField v = 0x04
  · rw [himm h4]
  · simp only [if_neg h4]

/-- Settles O3: issue and step see a word through the decoder alone. -/
theorem ignoredCommandBitsHaveNoEffect : Obligations.IgnoredCommandBitsHaveNoEffect := by
  intro s v w hop himm
  have hd : decodeWord v = decodeWord w := decodeWord_congr hop himm
  have hi : ∀ u, issueCommand v u = issueCommand w u := fun u => by simp only [issueCommand, hd]
  refine ⟨hd, hi s, fun hb => ?_⟩
  have hcmd : ∀ x, step { s with inputs := .host (.write 0x00 4 x) :: s.inputs } = issueCommand x s :=
    fun x => step_of_command (s := { s with inputs := _ }) hb rfl
  rw [hcmd, hcmd, hi]

theorem opcField_eq_of_reserved {w : Word} {opc : Byte} (h : decodeWord w = .reserved opc) : opcField w = opc := by
  unfold decodeWord at h
  split_ifs at h
  exact Decoded.reserved.inj h

/-- A word is reserved exactly when its OPC is outside the map (R330). -/
theorem decodeWord_eq_reserved_iff (w : Word) (opc : Byte) :
    decodeWord w = .reserved opc ↔ opcField w = opc ∧ (opc = 0x00 ∨ 0x07 ≤ opc.toNat) := by
  refine ⟨fun h => ⟨opcField_eq_of_reserved h, reserved_opcodes h⟩, ?_⟩
  rintro ⟨rfl, hop⟩
  cases h : decodeWord w with
  | reserved c => rw [opcField_eq_of_reserved h]
  | instr i =>
    obtain ⟨hi, -⟩ := (decodeWord_eq_instr_iff w i).mp h
    obtain ⟨hge, hle⟩ : 1 ≤ (opcode i).toNat ∧ (opcode i).toNat ≤ 6 := ok_opcodes i
    rw [hi] at hop
    rcases hop with h0 | h7
    · simp [h0] at hge
    · omega

theorem issueCommand_of_reserved {w : Word} {opc : Byte} (h : decodeWord w = .reserved opc) (s : State) :
    issueCommand w s = .next (reservedCommand opc s) := by
  simp [issueCommand, h]

theorem opcField_ofNat (n : Nat) : opcField (BitVec.ofNat 32 n) = BitVec.ofNat 8 n := by
  rw [← BitVec.toNat_inj]
  simp only [opcField, BitVec.extractLsb'_toNat, BitVec.toNat_ofNat, Nat.shiftRight_zero]
  omega

/-- The opcodes from 7 on are reserved. -/
theorem decodeWord_ofNat_reserved {n : Nat} (h7 : 7 ≤ n) (hlt : n < 256) :
    decodeWord (BitVec.ofNat 32 n) = .reserved (BitVec.ofNat 8 n) := by
  refine (decodeWord_eq_reserved_iff _ _).mpr ⟨opcField_ofNat n, .inr ?_⟩
  rwa [BitVec.toNat_ofNat, Nat.mod_eq_of_lt hlt]

/-- 250 opcodes are reserved (R330): one below 7, and the 249 from there on. -/
theorem count_reserved : ((List.range 256).filter
    (fun n => decide (decodeWord (BitVec.ofNat 32 n) = .reserved (BitVec.ofNat 8 n)))).length = 250 := by
  have high : ∀ n ∈ (List.range 249).map (7 + ·),
      decide (decodeWord (BitVec.ofNat 32 n) = .reserved (BitVec.ofNat 8 n)) = true := by
    simp only [List.mem_map, List.mem_range, decide_eq_true_eq]
    rintro _ ⟨k, hk, rfl⟩
    exact decodeWord_ofNat_reserved (by omega) (by omega)
  rw [show 256 = 7 + 249 from rfl, List.range_add, List.filter_append, List.length_append,
    List.filter_eq_self.mpr high, List.length_map, List.length_range]
  decide

/-- Settles O21: the write to CMD is `reservedCommand` of its OPC, and six of the 256 opcodes are not reserved. -/
theorem reservedOpcodeSetsCmderr : Obligations.ReservedOpcodeSetsCmderr := by
  refine ⟨fun s w rest hb hin hop => ?_, fun w => ?_, count_reserved⟩
  · rw [step_of_command hb hin, issueCommand_of_reserved ((decodeWord_eq_reserved_iff w _).mpr ⟨rfl, hop⟩)]
    rfl
  · simp only [decodeWord_eq_reserved_iff, exists_eq_left']

/-! ## The six commands in their issuing step -/

/-- Settles O19: by definition, as the record of the new state shows. -/
theorem sendIsAccepted : Obligations.SendIsAccepted :=
  ⟨fun v h => (decodeWord_eq_instr_iff v .send).mpr ⟨h, nofun⟩, fun _ => rfl⟩

/-- Settles O20, as O19. -/
theorem xchgIsAccepted : Obligations.XchgIsAccepted :=
  ⟨fun v h => (decodeWord_eq_instr_iff v .xchg).mpr ⟨h, nofun⟩, fun _ => rfl⟩

/-- No command writes PKT_*, RXBUF, REPLY_DELAY, TIMER or FAULT (R302, R620). -/
theorem exec_keeps_registers {i : Instr} {s t : State} (h : exec i s = .next t) :
    t.pktAddr = s.pktAddr ∧ t.pktPos = s.pktPos ∧ t.pktKind = s.pktKind ∧ t.pktStatus = s.pktStatus ∧
      t.rxbuf = s.rxbuf ∧ t.replyDelay = s.replyDelay ∧ t.timer = s.timer ∧ t.faults = s.faults := by
  cases i <;> cases h <;> exact ⟨rfl, rfl, rfl, rfl, rfl, rfl, rfl, rfl⟩

/-- No command moves an agent or puts a byte on the wire. -/
theorem exec_keeps_agents {i : Instr} {s t : State} (h : exec i s = .next t) :
    t.inputs = s.inputs ∧ t.prog = s.prog ∧ t.hpc = s.hpc ∧ t.obs = s.obs ∧ t.wire = s.wire := by
  cases i <;> cases h <;> exact ⟨rfl, rfl, rfl, rfl, rfl⟩

theorem exec_keeps_txbuf {i : Instr} {s t : State} (h : exec i s = .next t) (h1 : i ≠ .encode) (h5 : i ≠ .send)
    (h6 : i ≠ .xchg) : t.txbuf = s.txbuf := by
  cases i <;> cases h
  case encode => exact absurd rfl h1
  case decode | crcinit | crcbyte => rfl
  case send => exact absurd rfl h5
  case xchg => exact absurd rfl h6

theorem exec_keeps_decoded {i : Instr} {s t : State} (h : exec i s = .next t) (h2 : i ≠ .decode) :
    SameDecoded s t := by
  cases i <;> cases h
  case decode => exact absurd rfl h2
  case encode | crcinit | crcbyte | send | xchg => exact sameDecoded_refl s

theorem exec_keeps_crcAcc {i : Instr} {s t : State} (h : exec i s = .next t) (h3 : i ≠ .crcinit)
    (h4 : ∀ b, i ≠ .crcbyte b) : t.crcAcc = s.crcAcc := by
  cases i <;> cases h
  case crcinit => exact absurd rfl h3
  case crcbyte b => exact absurd rfl (h4 b)
  case encode | decode | send | xchg => rfl

/-- The codec commands start no transaction. -/
theorem exec_keeps_sequencer {i : Instr} {s t : State} (h : exec i s = .next t) (h5 : i ≠ .send) (h6 : i ≠ .xchg) :
    t.busy = s.busy ∧ t.phase = s.phase ∧ t.curop = s.curop ∧ t.chanReqs = s.chanReqs := by
  cases i <;> cases h
  case send => exact absurd rfl h5
  case xchg => exact absurd rfl h6
  case encode | decode | crcinit | crcbyte => exact ⟨rfl, rfl, rfl, rfl⟩

/-- Every command clears the outcome of the one before it and leaves its opcode in LASTOP (R315). -/
theorem exec_clears_outcome {i : Instr} {s t : State} (h : exec i s = .next t) :
    t.ioerr = false ∧ t.cmderr = false ∧ t.ioSrc = .none ∧ t.ioCount = 0 ∧ t.ioCode = 0 ∧ t.lastop = opcode i := by
  cases i <;> cases h <;> exact ⟨rfl, rfl, rfl, rfl, rfl, rfl⟩

/-- Settles O22: one lemma for each part of the state. -/
theorem commandsLeaveTheRestAlone : Obligations.CommandsLeaveTheRestAlone := fun _ _ _ h =>
  ⟨exec_keeps_registers h, exec_keeps_agents h, exec_keeps_txbuf h, exec_keeps_decoded h, exec_keeps_crcAcc h,
    exec_keeps_sequencer h, exec_clears_outcome h⟩

/-- Settles O58: with no input a step waits, and the step of every input answers a next state. -/
theorem everyStepAnswersANextState : Obligations.EveryStepAnswersANextState := by
  intro s
  cases h : s.inputs with
  | nil => exact ⟨s, step_of_no_inputs h⟩
  | cons i rest =>
    rw [step_of_inputs h]
    exact runInput_total i _

/-! ## The frame and the CRC -/

/-- Settles O5: as numbers, the bytes of the frame are quotients and remainders of the fields, and both sides end in
the same checksum byte. -/
theorem packLaysOutTheFrame : Obligations.PackLaysOutTheFrame := by
  intro a p k st
  simp only [Frame.toWord, pack, Frame.head, Config.sync]
  rw [← BitVec.toNat_inj]
  simp only [toNat_append_eq_add, BitVec.extractLsb'_toNat, Nat.shiftRight_eq_div_pow, BitVec.ofNat_eq_ofNat,
    BitVec.toNat_ofNat, pow_zero, Nat.div_one]
  omega

/-- A table step is a byte of the bit-serial CRC (R403). -/
theorem crc8Step_eq_crcByteStep : crc8Step = crcByteStep := by
  funext c b
  calc crc8Step c b = crc8Bitwise [c ^^^ b] := crcTableIsTheBitSerialCrc.1 (c ^^^ b)
    _ = crcByteStep c b := by simp [crc8Bitwise, crcByteStep, Config.crcInit, Config.crcXorOut]

/-- Table steps over a sequence give its CRC (R403). -/
theorem foldl_crc8Step (bs : List Byte) : bs.foldl crc8Step Config.crcInit = crc8 bs := by
  simp [crc8Step_eq_crcByteStep, crc8, crc8Bitwise, Config.crcXorOut]

/-- CRCBYTE of each byte of a sequence folds its table steps into CRC_ACC (R341, R423). -/
theorem runSteps_crcbytes (bs : List Byte) {s : State} (hb : s.busy = false) (hd : s.done = true)
    (hin : s.inputs = bs.map (fun b => .host (.write 0x00 4 (0#16 ++ b ++ 0x04#8)))) :
    ∃ t, runSteps bs.length s = .next t ∧ t.crcAcc = bs.foldl crc8Step s.crcAcc ∧ t.done = true ∧ t.busy = false ∧
      t.inputs = [] := by
  induction bs generalizing s with
  | nil => exact ⟨s, rfl, rfl, hd, hb, hin⟩
  | cons b bs ih =>
    have hw : decodeWord (0#16 ++ b ++ 0x04#8) = .instr (.crcbyte b) := decodeWord_encodeWord (.crcbyte b)
    have hst := (step_of_command hb hin).trans (issueCommand_of_instr hw _)
    rw [List.length_cons, runSteps_succ bs.length hst]
    exact ih hb rfl rfl

/-- Settles O24: CRCINIT writes the initial value, from which the table steps give the CRC. -/
theorem crcCommandsComputeCrc8 : Obligations.CrcCommandsComputeCrc8 := by
  intro s bs hb hin
  have hw : decodeWord 0x00000003 = .instr .crcinit := rfl
  have hst := (step_of_command hb hin).trans (issueCommand_of_instr hw _)
  rw [runSteps_succ bs.length hst, ← foldl_crc8Step bs]
  exact runSteps_crcbytes bs hb rfl rfl

end Sys2Proof.Machine
end

section
/-! PROOFS. The host program: the fields that JEQ and JNE compare, the labels, and each statement's step. -/

namespace Sys2Proof.Machine

/-! ## The fields of a register -/

theorem fieldValue_toNat (f : Field) (w : Word) : (fieldValue f w).toNat = w.toNat / 2 ^ f.lo % 2 ^ f.width := by
  have hlt : w.toNat / 2 ^ f.lo % 2 ^ f.width < 2 ^ 32 :=
    (Nat.mod_le _ _).trans_lt ((Nat.div_le_self _ _).trans_lt w.isLt)
  rw [fieldValue, BitVec.toNat_setWidth, BitVec.toNat_setWidth, BitVec.toNat_ushiftRight,
    Nat.shiftRight_eq_div_pow, Nat.mod_eq_of_lt hlt]

/-- The fields of STATUS are the state's own values (R105). -/
theorem status_fields (s : State) :
    (fieldValue fieldBusy (readReg .status s)).toNat = s.busy.toNat ∧
      (fieldValue fieldDone (readReg .status s)).toNat = s.done.toNat ∧
      (fieldValue fieldIoerr (readReg .status s)).toNat = s.ioerr.toNat ∧
      (fieldValue fieldCmderr (readReg .status s)).toNat = s.cmderr.toNat ∧
      (fieldValue fieldPhase (readReg .status s)).toNat = s.phase.code.toNat ∧
      (fieldValue fieldLastop (readReg .status s)).toNat = s.lastop.toNat := by
  have hw : (readReg .status s).toNat = _ := statusWord_toNat s
  have hbusy := Bool.toNat_lt s.busy
  have hdone := Bool.toNat_lt s.done
  have hioerr := Bool.toNat_lt s.ioerr
  have hcmderr := Bool.toNat_lt s.cmderr
  simp only [fieldValue_toNat, hw, fieldBusy, fieldDone, fieldIoerr, fieldCmderr, fieldPhase, fieldLastop]
  omega

theorem valid_field (s : State) : (fieldValue fieldValid (readReg .dFlags s)).toNat = s.dValid.toNat := by
  have hw : (readReg .dFlags s).toNat = _ := dFlagsWord_toNat s
  have hvalid := Bool.toNat_lt s.dValid
  rw [fieldValue_toNat, hw]
  simp only [fieldValid]
  omega

theorem fieldIs_iff (f : Field) (v : Word) (s : State) :
    fieldIs f v s = true ↔ fieldValue f (readReg f.reg s) = v := by
  rw [fieldIs, hostRead_offset, beq_iff_eq]

/-- What POLL waits for. -/
theorem fieldIs_busy_zero_iff (s : State) : fieldIs fieldBusy 0 s = true ↔ s.busy = false := by
  obtain ⟨hbusy, -⟩ := status_fields s
  have hval : (fieldValue fieldBusy (readReg fieldBusy.reg s)).toNat = s.busy.toNat := hbusy
  rw [fieldIs_iff, ← BitVec.toNat_inj, hval]
  cases s.busy <;> decide

/-! ## The labels of a program -/

theorem getElem?_labelIndex {prog : List Stmt} {l : Label} (h : .label l ∈ prog) :
    prog[labelIndex prog l]? = some (.label l) := by
  have hlt : labelIndex prog l < prog.length := List.findIdx_lt_length_of_exists ⟨_, h, by simp⟩
  have hl : (prog[labelIndex prog l] == .label l) = true := List.findIdx_getElem (w := hlt)
  rw [List.getElem?_eq_getElem hlt, eq_of_beq hl]

theorem getElem?_ne_of_lt_labelIndex {prog : List Stmt} {l : Label} {j : Nat} (h : j < labelIndex prog l) :
    prog[j]? ≠ some (.label l) := by
  intro hj
  obtain ⟨hlt, hl⟩ := List.getElem?_eq_some_iff.mp hj
  have hne : (prog[j] == .label l) = false := List.not_of_lt_findIdx h
  simp [hl] at hne

theorem getElem?_labelIndex_of_undefined {prog : List Stmt} {l : Label} (h : .label l ∉ prog) :
    prog[labelIndex prog l]? = none := by
  have hlen : labelIndex prog l = prog.length := by
    refine List.findIdx_eq_length.mpr fun st hst => ?_
    rw [beq_eq_false_iff_ne]
    exact fun hl => h (hl ▸ hst)
  rw [hlen, List.getElem?_eq_none le_rfl]

/-! ## Each statement's step -/

/-- The host's step is its statement's. -/
theorem step_of_stmt {s : State} {st : Stmt} {rest : List Input} (h : s.inputs = .hostStmt :: rest)
    (hst : s.prog[s.hpc]? = some st) : step s = runStmt st { s with inputs := rest } := by
  rw [step_of_inputs h]
  simp only [runInput, hostStmt, hst]

/-- A write statement goes on after its write when BUSY = 0 (R340). -/
theorem wrStmt_of_idle {s : State} (hb : s.busy = false) (off : Nat) (v : Word) :
    wrStmt off v s = andThen (hostAccess (.write off Config.accessBytes v) s) advance :=
  if_neg (by simp [hb])

/-- A write statement stays at its write while BUSY = 1 (R620, log entry 18). -/
theorem wrStmt_of_busy {s : State} (hb : s.busy = true) (off : Nat) (v : Word) :
    wrStmt off v s = hostAccess (.write off Config.accessBytes v) s :=
  if_pos hb

/-- A command statement with BUSY = 0 is the command, after which the host goes on (R315, R340). -/
theorem runStmt_cmd_of_idle {s : State} (hb : s.busy = false) (i : Instr) :
    runStmt (.cmd i) s = andThen (exec i s) advance := by
  have hcmd : hostAccess (.write Reg.cmd.offset Config.accessBytes (encodeWord i)) s = exec i s := by
    rw [← issueCommand_of_instr (decodeWord_encodeWord i)]
    simp [hostAccess, hb, hostWrite, Reg.access]
  rw [runStmt, wrStmt_of_idle hb, hcmd]

/-- POLL reads STATUS, and goes on only when BUSY = 0. -/
theorem runStmt_poll (s : State) : runStmt .poll s = .next
    { s with obs := s.obs ++ [⟨0x04, readReg .status s⟩], hpc := if s.busy then s.hpc else s.hpc + 1 } := by
  rw [runStmt, rdStmt_next]
  by_cases hb : s.busy = true
  · rw [if_pos hb, if_neg (by rw [fieldIs_busy_zero_iff, hb]; decide)]
    rfl
  · rw [if_neg hb, if_pos ((fieldIs_busy_zero_iff s).mpr (Bool.eq_false_iff.mpr hb))]
    rfl

/-- JEQ reads the register, and goes to the label when the field holds the value. -/
theorem runStmt_jeq (f : Field) (v : Word) (l : Label) (s : State) : runStmt (.jeq f v l) s = .next
    { s with
      obs := s.obs ++ [⟨f.reg.offset, readReg f.reg s⟩]
      hpc := if fieldValue f (readReg f.reg s) = v then labelIndex s.prog l else s.hpc + 1 } := by
  rw [runStmt, rdStmt_next]
  simp only [fieldIs_iff]
  split <;> rfl

/-- JNE reads the register, and goes to the label when the field does not hold the value. -/
theorem runStmt_jne (f : Field) (v : Word) (l : Label) (s : State) : runStmt (.jne f v l) s = .next
    { s with
      obs := s.obs ++ [⟨f.reg.offset, readReg f.reg s⟩]
      hpc := if fieldValue f (readReg f.reg s) = v then s.hpc + 1 else labelIndex s.prog l } := by
  rw [runStmt, rdStmt_next]
  simp only [fieldIs_iff]
  split <;> rfl

/-- Settles O33: the host's step is its statement's, and each statement form has its equation above. -/
theorem hostStatementsMakeTheirAccess : Obligations.HostStatementsMakeTheirAccess := by
  refine ⟨fieldValue_toNat, fun s => ?_, fun prog l => ⟨getElem?_labelIndex,
    fun j => getElem?_ne_of_lt_labelIndex, getElem?_labelIndex_of_undefined⟩, fun s st rest hin hst => ?_⟩
  · obtain ⟨hbusy, hdone, hioerr, hcmderr, hphase, hlastop⟩ := status_fields s
    refine ⟨hbusy, hdone, hioerr, hcmderr, hphase.trans ?_, hlastop, valid_field s⟩
    cases s.phase <;> rfl
  · intro u
    rw [step_of_stmt hin hst]
    refine ⟨?wr, ?wrBusy, ?cmd, ?cmdBusy, ?rd, ?poll, ?jeq, ?jne, ?label, ?jmp, ?halt⟩
    case wr => rintro r v rfl hb; exact wrStmt_of_idle (s := u) hb r.offset v
    case wrBusy => rintro r v rfl hb; exact wrStmt_of_busy (s := u) hb r.offset v
    case cmd => rintro i rfl hb; exact runStmt_cmd_of_idle (s := u) hb i
    case cmdBusy => rintro i rfl hb; exact wrStmt_of_busy (s := u) hb Reg.cmd.offset (encodeWord i)
    case rd => rintro r rfl; exact rdStmt_next r advance _
    case poll => rintro rfl; exact runStmt_poll _
    case jeq => rintro f v l rfl; exact runStmt_jeq f v l _
    case jne => rintro f v l rfl; exact runStmt_jne f v l _
    case label => rintro l rfl; rfl
    case jmp => rintro l rfl; rfl
    case halt => rintro rfl; rfl

end Sys2Proof.Machine
end

section
/-! PROOFS. The codec: the checks and the round trip of unpack and pack, the linearity of the CRC, and the four codec
commands. -/

namespace Sys2Proof.Machine

/-! ## What unpack reads, and its two checks -/

theorem unpack_syncOk_iff (f : Frame) : (unpack f).syncOk = true ↔ f.f0 = Config.sync := beq_iff_eq

theorem unpack_crcOk_iff (f : Frame) : (unpack f).crcOk = true ↔ crc8 f.head = f.f4 := beq_iff_eq

/-- VALID is the conjunction of the two checks (R404). -/
theorem unpack_valid_iff (f : Frame) : (unpack f).valid = true ↔ f.f0 = Config.sync ∧ crc8 f.head = f.f4 := by
  rw [← unpack_syncOk_iff, ← unpack_crcOk_iff]
  exact Bool.and_eq_true_iff

/-- A frame is its sync byte, its four fields and its checksum byte, in this order (R321, R404). -/
theorem toWord_eq_fields (f : Frame) : f.toWord =
    f.f0 ++ (unpack f).address ++ (unpack f).position ++ (unpack f).kind ++ (unpack f).status ++ f.f4 := by
  simp only [Frame.toWord, unpack]
  rw [← BitVec.toNat_inj]
  simp only [toNat_append_eq_add, BitVec.extractLsb'_toNat, Nat.shiftRight_eq_div_pow]
  omega

/-- Settles O6: the layout, and each check as an equation. -/
theorem unpackReadsEveryFrame : Obligations.UnpackReadsEveryFrame := fun f =>
  ⟨toWord_eq_fields f, unpack_syncOk_iff f, unpack_crcOk_iff f, unpack_valid_iff f⟩

/-- Settles O10: the checksum check passes by hypothesis and the sync check fails. -/
theorem syncGateRejectsAWrongFirstByte : Obligations.SyncGateRejectsAWrongFirstByte := fun f h0 h4 =>
  ⟨(unpack_crcOk_iff f).mpr h4.symm, Bool.eq_false_iff.mpr fun h => h0 ((unpack_syncOk_iff f).mp h),
    Bool.eq_false_iff.mpr fun h => h0 ((unpack_valid_iff f).mp h).1⟩

/-! ## Pack and unpack are inverse -/

/-- Concatenations of parts of equal widths agree part by part. -/
theorem append_inj {m n : Nat} {x x' : BitVec m} {y y' : BitVec n} (h : x ++ y = x' ++ y') : x = x' ∧ y = y' := by
  have hi := congrArg (BitVec.extractLsb' n m) h
  have lo := congrArg (BitVec.extractLsb' 0 n) h
  rw [BitVec.extractLsb'_append_eq_left, BitVec.extractLsb'_append_eq_left] at hi
  rw [BitVec.extractLsb'_append_eq_right, BitVec.extractLsb'_append_eq_right] at lo
  exact ⟨hi, lo⟩

theorem toWord_injective : Function.Injective Frame.toWord := by
  intro f g h
  obtain ⟨h, h4⟩ := append_inj h
  obtain ⟨h, h3⟩ := append_inj h
  obtain ⟨h, h2⟩ := append_inj h
  obtain ⟨h0, h1⟩ := append_inj h
  exact (Frame.mk.injEq ..).mpr ⟨h0, h1, h2, h3, h4⟩

/-- The fields that unpack reads in a packed frame: the two layouts of one frame, part by part. -/
theorem unpack_pack_fields (a p : BitVec 16) (k st : BitVec 1) :
    (unpack (pack a p k st)).address = a.extractLsb' 0 10 ∧ (unpack (pack a p k st)).position = p.extractLsb' 0 12 ∧
      (unpack (pack a p k st)).kind = k ∧ (unpack (pack a p k st)).status = st := by
  have h := (toWord_eq_fields (pack a p k st)).symm.trans (packLaysOutTheFrame a p k st)
  obtain ⟨h, -⟩ := append_inj h
  obtain ⟨h, hst⟩ := append_inj h
  obtain ⟨h, hk⟩ := append_inj h
  obtain ⟨h, hp⟩ := append_inj h
  obtain ⟨-, ha⟩ := append_inj h
  exact ⟨ha, hp, hk, hst⟩

theorem unpack_pack_valid (a p : BitVec 16) (k st : BitVec 1) : (unpack (pack a p k st)).valid = true :=
  (unpack_valid_iff _).mpr ⟨rfl, rfl⟩

/-- The low bits of a number that fits into them. -/
theorem toNat_extractLsb'_zero {w n : Nat} {x : BitVec w} (h : x.toNat < 2 ^ n) :
    (x.extractLsb' 0 n).toNat = x.toNat := by
  rw [BitVec.extractLsb'_toNat, Nat.shiftRight_zero, Nat.mod_eq_of_lt h]

/-- Settles O7: the fields, the checks, and that an address or position in range loses no bit. -/
theorem unpackInvertsPack : Obligations.UnpackInvertsPack := by
  intro a p k st
  obtain ⟨ha, hp, hk, hst⟩ := unpack_pack_fields a p k st
  refine ⟨ha, hp, hk, hst, unpack_pack_valid a p k st, fun h => ?_, fun h => ?_⟩
  · rw [ha, toNat_extractLsb'_zero (Nat.lt_succ_of_le h)]
  · rw [hp, toNat_extractLsb'_zero (Nat.lt_succ_of_le h)]

/-- A valid frame is determined by its four fields: SYNC and the checksum leave no choice for bytes 0 and 4. -/
theorem eq_of_valid_of_fields {f g : Frame} (hf : (unpack f).valid = true) (hg : (unpack g).valid = true)
    (ha : (unpack f).address = (unpack g).address) (hp : (unpack f).position = (unpack g).position)
    (hk : (unpack f).kind = (unpack g).kind) (hst : (unpack f).status = (unpack g).status) : f = g := by
  obtain ⟨hf0, hf4⟩ := (unpack_valid_iff f).mp hf
  obtain ⟨hg0, hg4⟩ := (unpack_valid_iff g).mp hg
  have hbytes : { f with f4 := g.f4 } = g := by
    apply toWord_injective
    rw [toWord_eq_fields g, ← ha, ← hp, ← hk, ← hst, hg0, ← hf0]
    exact toWord_eq_fields _
  have h4 : f.f4 = g.f4 :=
    calc f.f4 = crc8 f.head := hf4.symm
      _ = crc8 g.head := congrArg (fun x => crc8 x.head) hbytes
      _ = g.f4 := hg4
  rw [← hbytes, ← h4]

/-- A field put into a register and cut out again. -/
theorem extractLsb'_zero_setWidth {n w : Nat} (h : n ≤ w) (x : BitVec n) : (x.setWidth w).extractLsb' 0 n = x :=
  (BitVec.extractLsb'_setWidth_of_le ((Nat.zero_add n).trans_le h)).trans BitVec.extractLsb'_eq_self

/-- Settles O8: the frame and the packing of its fields are valid and have the same fields. -/
theorem validFramesAreEncodings : Obligations.ValidFramesAreEncodings := by
  intro f hv
  obtain ⟨ha, hp, hk, hst⟩ := unpack_pack_fields ((unpack f).address.setWidth 16) ((unpack f).position.setWidth 16)
    (unpack f).kind (unpack f).status
  exact eq_of_valid_of_fields (unpack_pack_valid _ _ _ _) hv (ha.trans (extractLsb'_zero_setWidth (by decide) _))
    (hp.trans (extractLsb'_zero_setWidth (by decide) _)) hk hst

/-! ## The CRC: one byte more, the residue and the check values -/

theorem crc8_concat (bs : List Byte) (b : Byte) : crc8 (bs ++ [b]) = crc8Step (crc8 bs) b := by
  rw [← foldl_crc8Step, ← foldl_crc8Step, List.foldl_concat]

/-- Settles O12: a fold over one more element is one more step. -/
theorem tableFoldIsCrc8 : Obligations.TableFoldIsCrc8 := ⟨foldl_crc8Step, crc8_concat⟩

theorem crc8Step_self (b : Byte) : crc8Step b b = 0x00 := by
  rw [crc8Step, BitVec.xor_self]
  rfl

/-- A sequence followed by its own CRC leaves no residue (V31). -/
theorem crc8_append_crc8 (bs : List Byte) : crc8 (bs ++ [crc8 bs]) = 0x00 :=
  (crc8_concat bs _).trans (crc8Step_self _)

/-- Settles O14: byte 4 of a packed frame is the CRC of the bytes before it. -/
theorem encodedFrameLeavesZeroResidue : Obligations.EncodedFrameLeavesZeroResidue := fun a p k st =>
  crc8_append_crc8 (pack a p k st).head

/-- Settles O13, by evaluating the table steps. -/
theorem crcCheckValueIsF4 : Obligations.CrcCheckValueIsF4 := by
  refine ⟨?_, ?_, ?_⟩ <;> rw [← foldl_crc8Step] <;> rfl

/-! ## The CRC: linearity and single-bit errors -/

/-- A bit step shifts and adds the polynomial when bit 7 was set (R402). -/
theorem crcBitStep_eq_xor (c : Byte) : crcBitStep c = c <<< 1 ^^^ bif c.getLsbD 7 then Config.crcPoly else 0 := by
  rw [crcBitStep]
  cases c.getLsbD 7 <;> simp

theorem crcBitStep_xor (c d : Byte) : crcBitStep (c ^^^ d) = crcBitStep c ^^^ crcBitStep d := by
  have poly : ∀ x y : Bool, (bif x ^^ y then Config.crcPoly else 0) =
      (bif x then Config.crcPoly else 0) ^^^ bif y then Config.crcPoly else 0 := by decide
  simp only [crcBitStep_eq_xor, BitVec.getLsbD_xor, BitVec.shiftLeft_xor_distrib, poly]
  ac_rfl

theorem crcBitSteps_xor (n : Nat) (c d : Byte) : crcBitSteps n (c ^^^ d) = crcBitSteps n c ^^^ crcBitSteps n d := by
  induction n generalizing c d with
  | zero => rfl
  | succ n ih => rw [crcBitSteps, crcBitStep_xor, ih]; rfl

theorem crcByteStep_xor (c d x y : Byte) :
    crcByteStep (c ^^^ d) (x ^^^ y) = crcByteStep c x ^^^ crcByteStep d y := by
  rw [crcByteStep, crcByteStep, crcByteStep, ← crcBitSteps_xor]
  congr 1
  ac_rfl

/-- The byte steps over two sequences of one length and over their sum. -/
theorem foldl_crcByteStep_zipWith_xor {xs ys : List Byte} (h : xs.length = ys.length) (c d : Byte) :
    (List.zipWith (· ^^^ ·) xs ys).foldl crcByteStep (c ^^^ d) =
      xs.foldl crcByteStep c ^^^ ys.foldl crcByteStep d := by
  induction xs generalizing ys c d with
  | nil =>
    obtain rfl := List.eq_nil_of_length_eq_zero h.symm
    rfl
  | cons x xs ih =>
    obtain ⟨y, ys, rfl⟩ := List.exists_cons_of_length_eq_add_one h.symm
    simp only [List.zipWith_cons_cons, List.foldl_cons, crcByteStep_xor]
    exact ih (Nat.succ_inj.mp h) _ _

/-- With initial value and final XOR 0 the CRC is linear (R407). -/
theorem crc8_zipWith_xor {xs ys : List Byte} (h : xs.length = ys.length) :
    crc8 (List.zipWith (· ^^^ ·) xs ys) = crc8 xs ^^^ crc8 ys := by
  simpa [crc8, crc8Bitwise, Config.crcInit, Config.crcXorOut] using foldl_crcByteStep_zipWith_xor h 0 0

/-- Flipping a bit adds the frame that has this bit alone. -/
theorem head_flipBit (f : Frame) (i : Fin 32) :
    (f.flipBit i).head = List.zipWith (· ^^^ ·) f.head (Frame.zero.flipBit i).head := by
  simp [Frame.head, Frame.flipBit, Frame.zero]

/-- The CRC sees each of the 32 bits (V40). -/
theorem crc8_head_flipBit_zero_ne (i : Fin 32) : crc8 (Frame.zero.flipBit i).head ≠ 0 := by
  rw [← foldl_crc8Step]
  revert i
  decide

/-- A sum with a pattern other than 0 is a change. -/
theorem xor_ne_self {x e : Byte} (he : e ≠ 0) : x ^^^ e ≠ x := fun h =>
  he ((BitVec.xor_right_inj x).mp (h.trans BitVec.xor_zero.symm))

theorem crc8_head_flipBit_ne (f : Frame) (i : Fin 32) : crc8 (f.flipBit i).head ≠ crc8 f.head := by
  rw [head_flipBit, crc8_zipWith_xor (xs := f.head) (ys := (Frame.zero.flipBit i).head) rfl]
  exact xor_ne_self (crc8_head_flipBit_zero_ne i)

theorem flipBit_f0_ne (f : Frame) {i : Fin 32} (h : 24 ≤ i.val) : (f.flipBit i).f0 ≠ f.f0 := by
  have byte0 : ∀ j : Fin 32, 24 ≤ j.val → (1#32 <<< j.val).extractLsb' 24 8 ≠ 0 := by decide
  exact xor_ne_self (byte0 i h)

/-- Settles O9: byte 4 still holds the CRC of the bytes before the flip. -/
theorem singleBitErrorsAreDetected : Obligations.SingleBitErrorsAreDetected := by
  intro a p k st i
  have hcrc : crc8 ((pack a p k st).flipBit i).head ≠ ((pack a p k st).flipBit i).f4 :=
    crc8_head_flipBit_ne (pack a p k st) i
  refine ⟨?_, ?_, fun h24 => ?_⟩ <;> rw [Bool.eq_false_iff]
  · exact fun h => hcrc ((unpack_crcOk_iff _).mp h)
  · exact fun h => hcrc ((unpack_valid_iff _).mp h).2
  · exact fun h => flipBit_f0_ne (pack a p k st) h24 ((unpack_syncOk_iff _).mp h)

/-! ## The four codec commands -/

/-- Settles O18: the step is the table's, by definition, and its fold is the CRC. -/
theorem crcbyteStepsTheAccumulator : Obligations.CrcbyteStepsTheAccumulator :=
  ⟨fun v h => (decodeWord_eq_instr_iff v (.crcbyte _)).mpr ⟨h, fun _ => Instr.crcbyte.inj⟩, fun _ _ => rfl,
    crc8Step_self, foldl_crc8Step, rfl, rfl, rfl, rfl⟩

/-- Settles O17: by definition, as the record of the new state shows. -/
theorem crcinitClearsTheAccumulator : Obligations.CrcinitClearsTheAccumulator :=
  ⟨fun v h => (decodeWord_eq_instr_iff v .crcinit).mpr ⟨h, nofun⟩, fun _ => rfl⟩

/-- Settles O16: the record of the new state, and the two frames with their checksums. -/
theorem decodeWritesThePacket : Obligations.DecodeWritesThePacket := by
  have hzero : crc8 [0x00, 0x00, 0x00, 0x00] = 0x00 := (foldl_crc8Step _).symm.trans rfl
  have hexample : crc8 [0xD4, 0x4B, 0x13, 0x4A] = 0x66 := (foldl_crc8Step _).symm.trans rfl
  refine ⟨fun v h => (decodeWord_eq_instr_iff v .decode).mpr ⟨h, nofun⟩, fun _ => rfl, ?_, ?_⟩
  · simpa [unpack, Frame.head, Frame.zero, Config.sync] using hzero
  · simpa [unpack, Frame.head, Config.sync] using hexample

/-- `pack` sees the low 10 and 12 bits of address and position alone (R401). -/
theorem pack_and_mask (a p : BitVec 16) (k st : BitVec 1) :
    pack (a &&& 0x03FF) (p &&& 0x0FFF) k st = pack a p k st := by
  have ha : (a &&& 0x03FF).extractLsb' 0 10 = a.extractLsb' 0 10 :=
    BitVec.extractLsb'_and.trans BitVec.and_allOnes
  have hp : (p &&& 0x0FFF).extractLsb' 0 12 = p.extractLsb' 0 12 :=
    BitVec.extractLsb'_and.trans BitVec.and_allOnes
  rw [pack, ha, hp, pack]

/-- Settles O15: the record of the new state, truncation, and the two frames with their checksums. -/
theorem encodeWritesTheFrame : Obligations.EncodeWritesTheFrame := by
  have hreset : crc8 [0xD4, 0x00, 0x00, 0x00] = 0x95 := (foldl_crc8Step _).symm.trans rfl
  obtain ⟨-, hexample, -⟩ := crcCheckValueIsF4
  exact ⟨fun v h => (decodeWord_eq_instr_iff v .encode).mpr ⟨h, nofun⟩, fun _ => rfl, pack_and_mask,
    congrArg (Frame.mk 0xD4 0x00 0x00 0x00) hreset, congrArg (Frame.mk 0xD4 0x00 0x00 0x02) hexample⟩

/-- Settles O25: DECODE unpacks the frame that ENCODE packed. -/
theorem encodeThenDecodeGivesThePacket : Obligations.EncodeThenDecodeGivesThePacket := by
  intro s t u ht hu
  cases ht
  cases hu
  obtain ⟨ha, hp, hk, hst⟩ := unpack_pack_fields s.pktAddr s.pktPos s.pktKind s.pktStatus
  exact ⟨ha, hp, hk, hst, unpack_pack_valid _ _ _ _, rfl⟩

end Sys2Proof.Machine
end

section
/-! PROOFS. The transaction driver: each sequencer step in the phase that awaits it, what every other step leaves of a
transaction, SEND and XCHG from acceptance to completion, and which inputs end a transaction. -/

namespace Sys2Proof.Machine

/-! ## The sequencer steps -/

/-- The TX step (R458). -/
theorem step_of_writeAnswered {s : State} {a : WriteAnswer} {rest : List Input} (hp : s.phase = .tx)
    (hin : s.inputs = .writeAnswered a :: rest) : step s = .next (txAnswer a { s with inputs := rest }) :=
  (step_of_inputs hin).trans (congrArg _ (if_pos hp))

/-- The WAIT-end step (R462). -/
theorem step_of_waitElapsed {s : State} {us : Nat} {rest : List Input} (hp : s.phase = .wait)
    (hus : s.timer.toNat ≤ us) (hin : s.inputs = .waitElapsed us :: rest) :
    step s = .next { s with inputs := rest, phase := .rx, chanReqs := s.chanReqs ++ [.read] } :=
  (step_of_inputs hin).trans (congrArg _ (if_pos ⟨hp, hus⟩))

/-- The RX step (R463). -/
theorem step_of_readAnswered {s : State} {a : ReadAnswer} {rest : List Input} (hp : s.phase = .rx)
    (hin : s.inputs = .readAnswered a :: rest) : step s = .next (rxAnswer a { s with inputs := rest }) :=
  (step_of_inputs hin).trans (congrArg _ (if_pos hp))

/-- A write that is accepted for any command but SEND is followed by the wait (R458, R461). -/
theorem txAnswer_ok_of_ne_send {s : State} (h : s.curop ≠ some .send) :
    txAnswer .ok s = { sendPrefix Config.readSize s with timer := s.replyDelay, phase := .wait } := if_neg h

/-- Settles O34: the TX step, and what `txAnswer` makes of each answer. -/
theorem txStepHandlesTheAnswer : Obligations.TxStepHandlesTheAnswer := by
  intro s rest hp
  refine ⟨fun hin hop => ?_, fun hin hop => ?_, fun code reached hin => step_of_writeAnswered hp hin⟩
  · exact (step_of_writeAnswered hp hin).trans (congrArg _ (txAnswer_ok_send hop))
  · exact (step_of_writeAnswered hp hin).trans (congrArg _ (txAnswer_ok_of_ne_send hop))

/-- Settles O36: the RX step with all five bytes. -/
theorem fullReplyIsDecoded : Obligations.FullReplyIsDecoded := by
  intro s rest f hp hin
  rw [step_of_readAnswered hp hin, rxAnswer_full rfl]
  rfl

/-- Settles O37: the RX step with an error. -/
theorem readErrorIsRecorded : Obligations.ReadErrorIsRecorded := fun _ _ _ hp hin => step_of_readAnswered hp hin

/-- The count of a short reply fits the three bits of COUNT (R115). -/
theorem toNat_ofNat_three {k : Nat} (hk : k < 5) : (BitVec.ofNat 3 k).toNat = k := by
  rw [BitVec.toNat_ofNat, Nat.mod_eq_of_lt (by omega)]

/-- Settles O38: the RX step with fewer than five bytes. -/
theorem shortReplyIsRecorded : Obligations.ShortReplyIsRecorded := by
  intro s rest k buf hp hk hin
  rw [step_of_readAnswered hp hin, rxAnswer_short (Nat.ne_of_lt hk)]
  exact ⟨_, rfl, toNat_ofNat_three hk, rfl⟩

/-- Settles O39: outside its phase, and a WAIT end before its time too, a sequencer step leaves the state as it is. -/
theorem disabledSequencerStepsChangeNothing : Obligations.DisabledSequencerStepsChangeNothing := by
  intro s rest
  refine ⟨fun a hin hp => ?_, fun us hin hw => ?_, fun a hin hp => ?_⟩ <;> rw [step_of_inputs hin]
  · exact congrArg _ (if_neg hp)
  · refine congrArg _ (if_neg ?_)
    rintro ⟨hp, hus⟩
    exact hw.elim (· hp) (Nat.not_lt.mpr hus)
  · exact congrArg _ (if_neg hp)

/-! ## What the other steps leave of a transaction -/

/-- The inputs whose step moves the transaction on: in each phase, those that R458, R462 and R463 enable. -/
def State.Awaits (s : State) (i : Input) : Prop :=
  match s.phase with
  | .idle => False
  | .tx => ∃ a, i = .writeAnswered a
  | .wait => ∃ us, i = .waitElapsed us ∧ s.timer.toNat ≤ us
  | .rx => ∃ a, i = .readAnswered a

theorem awaits_tx {s : State} (hp : s.phase = .tx) (i : Input) : s.Awaits i ↔ ∃ a, i = .writeAnswered a := by
  simp [State.Awaits, hp]

theorem awaits_wait {s : State} (hp : s.phase = .wait) (i : Input) :
    s.Awaits i ↔ ∃ us, i = .waitElapsed us ∧ s.timer.toNat ≤ us := by
  simp [State.Awaits, hp]

theorem awaits_rx {s : State} (hp : s.phase = .rx) (i : Input) : s.Awaits i ↔ ∃ a, i = .readAnswered a := by
  simp [State.Awaits, hp]

/-- While BUSY = 1, a step that is no reset and that the transaction does not await moves the host and the FAULT record
alone (R620, R720). -/
theorem step_of_not_awaits {s : State} {i : Input} {rest : List Input} (hb : s.busy = true)
    (hin : s.inputs = i :: rest) (hr : i.isReset = false) (ha : ¬s.Awaits i) :
    ∃ faults obs hpc, step s = .next { s with inputs := rest, faults := faults, obs := obs, hpc := hpc } := by
  obtain ⟨t, ht⟩ := runInput_total i { s with inputs := rest }
  rw [step_of_inputs hin, ht]
  cases runInput_cases ht with
  | fault f hi ht => exact ⟨_, _, _, congrArg _ ht⟩
  | host hi ht =>
    obtain ⟨hpc, obs, ht⟩ := ht
    exact ⟨_, obs, hpc, congrArg _ ht⟩
  | store r v hpc hi hb' => exact absurd (hb'.symm.trans hb) Bool.false_ne_true
  | command v u hpc hi hb' => exact absurd (hb'.symm.trans hb) Bool.false_ne_true
  | tx a hi hp => exact absurd ((awaits_tx hp i).mpr ⟨a, hi⟩) ha
  | waited us hi hp hu => exact absurd ((awaits_wait hp i).mpr ⟨us, hi, hu⟩) ha
  | rx a hi hp => exact absurd ((awaits_rx hp i).mpr ⟨a, hi⟩) ha
  | disabled hi hr ht => exact ⟨_, _, _, congrArg _ ht⟩
  | reset reached hi => simp [hi, Input.isReset] at hr

/-- Settles O35: the WAIT-end step, and no other input is awaited in WAIT. -/
theorem waitLastsAtLeastTheDelay : Obligations.WaitLastsAtLeastTheDelay := by
  intro s i rest hp hb hin
  refine ⟨fun us hi hus => step_of_waitElapsed hp hus (hi ▸ hin), fun hr hus => ?_⟩
  have ha : ¬s.Awaits i := by
    rw [awaits_wait hp]
    rintro ⟨us, hi, hle⟩
    exact Nat.not_lt.mpr hle (hus us hi)
  obtain ⟨_, _, _, hst⟩ := step_of_not_awaits hb hin hr ha
  exact ⟨_, hst, hp, hb, rfl, rfl⟩

/-- Only an answer of the channel is awaited where a request is outstanding (R458, R463). -/
theorem not_awaits_of_no_answer {s : State} {i : Input} (hp : s.phase = .tx ∨ s.phase = .rx)
    (hi : i.isAnswer = false) : ¬s.Awaits i := by
  rcases hp with hp | hp
  · rw [awaits_tx hp]
    rintro ⟨a, rfl⟩
    cases hi
  · rw [awaits_rx hp]
    rintro ⟨a, rfl⟩
    cases hi

/-- Settles O47, by induction on the number of steps: no step is awaited. -/
theorem unansweredRequestStaysBusy : Obligations.UnansweredRequestStaysBusy := by
  intro s k
  induction k generalizing s with
  | zero => exact fun hb _ _ => ⟨s, rfl, hb, rfl, rfl⟩
  | succ k ih =>
    intro hb hp hno
    cases hin : s.inputs with
    | nil =>
      rw [runSteps_succ k (step_of_no_inputs hin)]
      exact ih s hb hp hno
    | cons i rest =>
      obtain ⟨⟨hr, hi⟩, hno⟩ : (i.isReset = false ∧ i.isAnswer = false) ∧
          rest.all (fun i => !i.isReset && !i.isAnswer) = true := by
        simpa only [hin, List.all_cons, Bool.and_eq_true, Bool.not_eq_true'] using hno
      obtain ⟨_, _, _, hst⟩ := step_of_not_awaits hb hin hr (not_awaits_of_no_answer hp hi)
      rw [runSteps_succ k hst]
      exact ih _ hb hp hno

/-! ## The order of the phases -/

/-- The moves of R460: the phase stays, or the sequencer goes on to the next phase or back to IDLE. -/
def PhaseMoved (s t : State) : Prop :=
  t.phase = s.phase ∨ (s.phase = .idle ∧ t.phase = .tx) ∨ (s.phase = .tx ∧ t.phase = .idle) ∨
    (s.phase = .tx ∧ t.phase = .wait ∧ s.curop = some .xchg) ∨ (s.phase = .wait ∧ t.phase = .rx) ∨
    (s.phase = .rx ∧ t.phase = .idle)

theorem txAnswer_phaseMoved {s : State} (h : Inv s) (hp : s.phase = .tx) (a : WriteAnswer) :
    PhaseMoved s (txAnswer a s) := by
  obtain ⟨op, hop, -⟩ := (h.transaction (by simp [hp])).op
  cases a with
  | err code reached => exact .inr (.inr (.inl ⟨hp, rfl⟩))
  | ok =>
    cases op with
    | send =>
      rw [txAnswer_ok_send hop]
      exact .inr (.inr (.inl ⟨hp, rfl⟩))
    | xchg =>
      rw [txAnswer_ok_xchg hop]
      exact .inr (.inr (.inr (.inl ⟨hp, rfl, hop⟩)))

theorem StepCase.phaseMoved {i : Input} {s t : State} (h : Inv s) (hr : i.isReset = false) (hs : StepCase i s t) :
    PhaseMoved s t := by
  cases hs with
  | fault f hi ht => exact ht ▸ .inl rfl
  | host hi ht =>
    obtain ⟨hpc, obs, rfl⟩ := ht
    exact .inl rfl
  | store r v hpc hi hb hr ht =>
    obtain ⟨a, p, k, st, rx, c, d, hw⟩ := writeReg_eq r v s
    rw [ht, hw]
    exact .inl rfl
  | command v u hpc hi hb hu ht =>
    subst ht
    obtain ⟨-, -, ⟨-, hp⟩ | ⟨-, hp⟩⟩ := issueCommand_outside hu
    · exact .inl hp
    · exact .inr (.inl ⟨(h.idle hb).phase, hp⟩)
  | tx a hi hp ht => exact ht ▸ txAnswer_phaseMoved h hp a
  | waited us hi hp hu ht => exact ht ▸ .inr (.inr (.inr (.inr (.inl ⟨hp, rfl⟩))))
  | rx a hi hp ht =>
    obtain ⟨-, -, -, hp'⟩ := rxAnswer_outside a s
    exact ht ▸ .inr (.inr (.inr (.inr (.inr ⟨hp, hp'⟩))))
  | disabled hi hr ht => exact ht ▸ .inl rfl
  | reset reached hi ht => simp [hi, Input.isReset] at hr

/-- Settles O40: each kind of step that `StepCase` lists, but reset, makes one of the moves, and BUSY follows PHASE by
the invariant. -/
theorem phaseMovesInOrder : Obligations.PhaseMovesInOrder := by
  intro s t h hr hst
  refine ⟨?_, (everyStepKeepsTheInvariant s t h hst).busy_iff⟩
  rcases step_cases hst with ⟨-, rfl⟩ | ⟨i, rest, hin, hs⟩
  · exact .inl rfl
  · have hi : i.isReset = false := by simpa [State.resetsNext, hin] using hr
    exact (hs.phaseMoved (h.outside rest _ _ _) hi : PhaseMoved { s with inputs := rest } t)

/-! ## SEND and XCHG from acceptance to completion -/

/-- The state in which a transaction waits for the answer to its write: accepted, its inputs being `rest` (R455). -/
def accepted (op : TransOp) (s : State) (rest : List Input) : State :=
  acceptTransaction op (accept (opcode op.instr) { s with inputs := rest })

/-- The word of SEND or XCHG, written to CMD with BUSY = 0, starts its transaction (R315, R455). -/
theorem step_of_transaction {s : State} {op : TransOp} {w : Word} {rest : List Input} (hb : s.busy = false)
    (hw : opcField w = opcode op.instr) (hin : s.inputs = .host (.write 0x00 4 w) :: rest) :
    step s = .next (accepted op s rest) := by
  have hi : decodeWord w = .instr op.instr :=
    (decodeWord_eq_instr_iff w _).mpr ⟨hw, by cases op <;> nofun⟩
  rw [step_of_command hb hin, issueCommand_of_instr hi]
  cases op <;> rfl

/-- The first two steps of a transaction: its command, and the answer to its write. -/
theorem runSteps_of_transaction {s : State} {op : TransOp} {w : Word} {a : WriteAnswer} {rest : List Input} (k : Nat)
    (hb : s.busy = false) (hw : opcField w = opcode op.instr)
    (hin : s.inputs = .host (.write 0x00 4 w) :: .writeAnswered a :: rest) :
    runSteps (k + 2) s = runSteps k (txAnswer a (accepted op s rest)) := by
  rw [runSteps_succ (k + 1) (step_of_transaction hb hw hin)]
  exact runSteps_succ k (step_of_writeAnswered rfl rfl)

/-- Settles O43: the command's step and the TX step, for each answer. -/
theorem sendRunsToCompletion : Obligations.SendRunsToCompletion := by
  intro s w a rest hb hw hin
  have hrun := runSteps_of_transaction (op := .send) 0 hb hw hin
  cases a with
  | ok =>
    rw [txAnswer_ok_send rfl] at hrun
    exact ⟨_, hrun, rfl, ⟨rfl, rfl⟩, rfl, rfl, rfl, rfl, fun _ => ⟨⟨rfl, rfl, rfl⟩, rfl⟩, nofun, rfl,
      sameDecoded_refl s, rfl, rfl⟩
  | err code reached =>
    refine ⟨_, hrun, rfl, ⟨rfl, rfl⟩, rfl, rfl, rfl, rfl, nofun, ?_, rfl, sameDecoded_refl s, rfl, rfl⟩
    rintro _ _ ⟨⟩
    exact ⟨⟨rfl, rfl, rfl⟩, rfl, rfl, rfl⟩

/-- Settles O45: the command's step and the TX step with an error, which ends any transaction. -/
theorem xchgWriteErrorSkipsTheRead : Obligations.XchgWriteErrorSkipsTheRead := fun s _ _ _ _ hb hw hin =>
  ⟨_, runSteps_of_transaction (op := .xchg) 0 hb hw hin, rfl, ⟨rfl, rfl⟩, ⟨rfl, rfl, rfl⟩, rfl, rfl, rfl,
    sameDecoded_refl s⟩

/-- XCHG in RX: its frame written, the reply delay waited out and the read requested, its inputs being `rest` (R458,
R461, R462). -/
def awaitingReply (s : State) (rest : List Input) : State :=
  { accepted .xchg s rest with
    wire := s.wire ++ (accepted .xchg s rest).txbuf.bytes
    timer := s.replyDelay
    phase := .rx
    chanReqs := s.chanReqs ++ [.write (accepted .xchg s rest).txbuf, .read] }

/-- The four steps of XCHG: its command, the answer to its write, the WAIT end, and the answer to its read. -/
theorem runSteps_of_xchg {s : State} {w : Word} {us : Nat} {a : ReadAnswer} {rest : List Input} (hb : s.busy = false)
    (hw : opcField w = 0x06) (hus : s.replyDelay.toNat ≤ us)
    (hin : s.inputs = .host (.write 0x00 4 w) :: .writeAnswered .ok :: .waitElapsed us :: .readAnswered a :: rest) :
    runSteps 4 s = .next (rxAnswer a (awaitingReply s rest)) := by
  rw [runSteps_of_transaction (op := .xchg) 2 hb hw hin, txAnswer_ok_xchg rfl,
    runSteps_succ 1 (step_of_waitElapsed rfl hus rfl), runSteps_succ 0 (step_of_readAnswered rfl rfl), runSteps_zero]
  have hreqs : (s.chanReqs ++ [ChanReq.write (accepted .xchg s rest).txbuf]) ++ [.read] =
      s.chanReqs ++ [.write (accepted .xchg s rest).txbuf, .read] := List.append_assoc ..
  rw [awaitingReply, ← hreqs]
  rfl

/-- Settles O44: XCHG is in RX by `runSteps_of_xchg`, and the RX step completes it, for each answer. -/
theorem xchgRunsToCompletion : Obligations.XchgRunsToCompletion := by
  intro s w us a rest hb hw hus hin
  have hrun := runSteps_of_xchg hb hw hus hin
  cases a with
  | ok k buf =>
    by_cases hk : k.val = Config.readSize
    · rw [rxAnswer_full hk] at hrun
      refine ⟨_, hrun, rfl, ⟨rfl, rfl⟩, rfl, rfl, rfl, rfl, rfl, ?_, ?_, nofun, rfl, rfl⟩
      · rintro _ ⟨⟩
        exact ⟨⟨rfl, rfl, rfl⟩, rfl, decodedFrom_writeDecoded buf s⟩
      · rintro _ _ ⟨⟩ hlt
        exact absurd hk (Nat.ne_of_lt hlt)
    · rw [rxAnswer_short hk] at hrun
      refine ⟨_, hrun, rfl, ⟨rfl, rfl⟩, rfl, rfl, rfl, rfl, rfl, ?_, ?_, nofun, rfl, rfl⟩
      · rintro _ ⟨⟩
        exact absurd rfl hk
      · rintro _ _ ⟨⟩ hlt
        exact ⟨⟨rfl, rfl, rfl⟩, toNat_ofNat_three hlt, rfl, rfl, sameDecoded_refl s⟩
  | err code =>
    refine ⟨_, hrun, rfl, ⟨rfl, rfl⟩, rfl, rfl, rfl, rfl, rfl, nofun, nofun, ?_, rfl, rfl⟩
    rintro _ ⟨⟩
    exact ⟨⟨rfl, rfl, rfl⟩, rfl, rfl, rfl, sameDecoded_refl s⟩

/-! ## Which inputs end a transaction

The premises of R454 and R462 look ahead to the inputs that the transaction awaits. So a step that is not awaited
leaves them as they are, the step that ends the transaction is the last they ask for, and with no input left one of
them is false. -/

theorem firstWriteAnswer_cons_of_ne {i : Input} (h : ¬∃ a, i = .writeAnswered a) (rest : List Input) :
    firstWriteAnswer (i :: rest) = firstWriteAnswer rest := by
  cases i with
  | writeAnswered a => exact absurd ⟨a, rfl⟩ h
  | host | hostStmt | waitElapsed | readAnswered | reset => rfl

theorem afterWaitEnd_cons_of_ne {delay : Nat} {i : Input} (h : ¬∃ us, i = .waitElapsed us ∧ delay ≤ us)
    (rest : List Input) : afterWaitEnd delay (i :: rest) = afterWaitEnd delay rest := by
  cases i with
  | waitElapsed us => exact if_neg fun hle => h ⟨us, rfl, hle⟩
  | host | hostStmt | writeAnswered | readAnswered | reset => rfl

theorem readAnswerComes_cons_of_ne {i : Input} (h : ¬∃ a, i = .readAnswered a) (rest : List Input) :
    readAnswerComes (i :: rest) = readAnswerComes rest := by
  cases i with
  | readAnswered a => exact absurd ⟨a, rfl⟩ h
  | host | hostStmt | writeAnswered | waitElapsed | reset => rfl

theorem firstWriteAnswer_append {pre : List Input} (h : ∀ a, .writeAnswered a ∉ pre) (l : List Input) :
    firstWriteAnswer (pre ++ l) = firstWriteAnswer l := by
  induction pre with
  | nil => rfl
  | cons i pre ih =>
    have hi : ¬∃ a, i = .writeAnswered a := by
      rintro ⟨a, rfl⟩
      exact h a List.mem_cons_self
    exact (firstWriteAnswer_cons_of_ne hi _).trans (ih fun a ha => h a (List.mem_cons_of_mem i ha))

theorem firstWriteAnswer_ne_none {l : List Input} {a : WriteAnswer} (h : .writeAnswered a ∈ l) :
    firstWriteAnswer l ≠ none := by
  induction l with
  | nil => cases h
  | cons i l ih =>
    by_cases hi : ∃ b, i = .writeAnswered b
    · obtain ⟨b, rfl⟩ := hi
      exact nofun
    · rw [firstWriteAnswer_cons_of_ne hi]
      exact ih ((List.mem_cons.mp h).resolve_left fun he => hi ⟨a, he.symm⟩)

/-- The inputs bring the transaction in progress all it asks for: the answers of R454 and the WAIT end of R462. -/
def Answered (s : State) : Prop := channelAnswers s = true ∧ waitEnds s = true

/-- SEND asks for an answer to its write and no more (R456). -/
theorem answered_of_send {s : State} {a : WriteAnswer} (hp : s.phase = .tx) (hop : s.curop = some .send)
    (ha : .writeAnswered a ∈ s.inputs) : Answered s := by
  cases hf : firstWriteAnswer s.inputs with
  | none => exact absurd hf (firstWriteAnswer_ne_none ha)
  | some r =>
    obtain ⟨b, rest⟩ := r
    cases b <;> simp [Answered, channelAnswers, waitEnds, hp, hf, hop]

/-- After a write that fails nothing more is asked for (R457). -/
theorem answered_of_write_error {s : State} {code : BitVec 16} {reached : Fin 6} {rest : List Input}
    (hp : s.phase = .tx) (hf : firstWriteAnswer s.inputs = some (.err code reached, rest)) : Answered s := by
  simp [Answered, channelAnswers, waitEnds, hp, hf]

/-- With no input left, a transaction lacks an answer or a WAIT end. -/
theorem not_answered_of_no_inputs {s : State} (hp : s.phase ≠ .idle) (hin : s.inputs = []) : ¬Answered s := by
  cases h : s.phase with
  | idle => exact absurd h hp
  | tx => simp [Answered, channelAnswers, h, hin, firstWriteAnswer]
  | wait => simp [Answered, waitEnds, h, hin, afterWaitEnd]
  | rx => simp [Answered, channelAnswers, h, hin, readAnswerComes]

/-- An input that the transaction does not await counts for nothing. -/
theorem answered_iff_of_not_awaits {s : State} {i : Input} {rest : List Input} (hin : s.inputs = i :: rest)
    (ha : ¬s.Awaits i) : Answered { s with inputs := rest } ↔ Answered s := by
  cases hp : s.phase with
  | idle => simp [Answered, channelAnswers, waitEnds, hp]
  | tx =>
    rw [awaits_tx hp] at ha
    simp [Answered, channelAnswers, waitEnds, hp, hin, firstWriteAnswer_cons_of_ne ha]
  | wait =>
    rw [awaits_wait hp] at ha
    simp [Answered, channelAnswers, waitEnds, hp, hin, afterWaitEnd_cons_of_ne ha]
  | rx =>
    rw [awaits_rx hp] at ha
    simp [Answered, channelAnswers, waitEnds, hp, hin, readAnswerComes_cons_of_ne ha]

/-- A step leaves the transaction in progress, with what it asks for still to come or not as before, or ends it, having
been the last step it asked for. -/
def TransactionStep (s t : State) : Prop := (t.busy = true ∧ (Answered t ↔ Answered s)) ∨ (Ended t ∧ Answered s)

theorem txAnswer_transactionStep {s : State} {a : WriteAnswer} {rest : List Input} (hb : s.busy = true)
    (hp : s.phase = .tx) (hin : s.inputs = .writeAnswered a :: rest) :
    TransactionStep s (txAnswer a { s with inputs := rest }) := by
  cases a with
  | err code reached => exact .inr ⟨⟨rfl, rfl⟩, answered_of_write_error hp (congrArg firstWriteAnswer hin)⟩
  | ok =>
    by_cases hop : s.curop = some .send
    · rw [txAnswer_ok_send (s := { s with inputs := rest }) hop]
      exact .inr ⟨⟨rfl, rfl⟩, answered_of_send hp hop (hin ▸ List.mem_cons_self)⟩
    · rw [txAnswer_ok_of_ne_send (s := { s with inputs := rest }) hop]
      refine .inl ⟨hb, ?_⟩
      simp [Answered, channelAnswers, waitEnds, hp, hin, firstWriteAnswer, hop]

theorem waitEnd_transactionStep {s : State} {us : Nat} {rest : List Input} (hb : s.busy = true) (hp : s.phase = .wait)
    (hus : s.timer.toNat ≤ us) (hin : s.inputs = .waitElapsed us :: rest) :
    TransactionStep s { s with inputs := rest, phase := .rx, chanReqs := s.chanReqs ++ [.read] } := by
  refine .inl ⟨hb, ?_⟩
  simp [Answered, channelAnswers, waitEnds, hp, hin, afterWaitEnd, hus]

/-- Any answer to the read ends the transaction (R464 to R466). -/
theorem rxAnswer_ended (a : ReadAnswer) (s : State) : Ended (rxAnswer a s) := by
  cases a with
  | ok k buf =>
    by_cases hk : k.val = Config.readSize
    · rw [rxAnswer_full hk]
      exact ⟨rfl, rfl⟩
    · rw [rxAnswer_short hk]
      exact ⟨rfl, rfl⟩
  | err code => exact ⟨rfl, rfl⟩

theorem rxAnswer_transactionStep {s : State} {a : ReadAnswer} {rest : List Input} (hp : s.phase = .rx)
    (hin : s.inputs = .readAnswered a :: rest) : TransactionStep s (rxAnswer a { s with inputs := rest }) := by
  refine .inr ⟨rxAnswer_ended a _, ?_⟩
  simp [Answered, channelAnswers, waitEnds, hp, hin, readAnswerComes]

theorem exists_transactionStep {s : State} {i : Input} {rest : List Input} (hb : s.busy = true)
    (hin : s.inputs = i :: rest) (hr : i.isReset = false) : ∃ t, step s = .next t ∧ TransactionStep s t := by
  by_cases ha : s.Awaits i
  · cases hp : s.phase with
    | idle => simp [State.Awaits, hp] at ha
    | tx =>
      obtain ⟨a, rfl⟩ := (awaits_tx hp i).mp ha
      exact ⟨_, step_of_writeAnswered hp hin, txAnswer_transactionStep hb hp hin⟩
    | wait =>
      obtain ⟨us, rfl, hus⟩ := (awaits_wait hp i).mp ha
      exact ⟨_, step_of_waitElapsed hp hus hin, waitEnd_transactionStep hb hp hus hin⟩
    | rx =>
      obtain ⟨a, rfl⟩ := (awaits_rx hp i).mp ha
      exact ⟨_, step_of_readAnswered hp hin, rxAnswer_transactionStep hp hin⟩
  · obtain ⟨_, _, _, hst⟩ := step_of_not_awaits hb hin hr ha
    exact ⟨_, hst, .inl ⟨hb, answered_iff_of_not_awaits hin ha⟩⟩

/-- A transaction that no reset meets ends exactly if the inputs bring it what it asks for: by induction on them. -/
theorem endsInTime_iff_answered {l : List Input} {s : State} (h : Inv s) (hb : s.busy = true) (hin : s.inputs = l)
    (hno : l.all (fun i => !i.isReset) = true) : EndsInTime s ↔ Answered s := by
  induction l generalizing s with
  | nil =>
    exact iff_of_false (not_endsInTime_of_no_inputs hb hin) (not_answered_of_no_inputs (h.busy_iff.mp hb) hin)
  | cons i rest ih =>
    obtain ⟨hr, hno⟩ : i.isReset = false ∧ rest.all (fun i => !i.isReset) = true := by
      simpa only [List.all_cons, Bool.and_eq_true, Bool.not_eq_true'] using hno
    obtain ⟨t, hst, hti⟩ := exists_step hin
    obtain ⟨t', hst', ht⟩ := exists_transactionStep hb hin hr
    obtain rfl : t = t' := Host.Outcome.next.inj (hst.symm.trans hst')
    rw [endsInTime_step hb hin hst hti]
    rcases ht with ⟨htb, hiff⟩ | ⟨hte, ha⟩
    · have hne : ¬Ended t := fun he => Bool.false_ne_true (he.1.symm.trans htb)
      rw [or_iff_right hne, ← hiff]
      exact ih (everyStepKeepsTheInvariant s t h hst) htb hti hno
    · exact iff_of_true (.inl hte) ha

/-- Settles O46: `endsInTime_iff_answered`, and the two cases in which an answer to the write is all that is asked
for. -/
theorem answeredTransactionEnds : Obligations.AnsweredTransactionEnds := by
  intro s h hb hno
  have hiff := endsInTime_iff_answered h hb rfl hno
  refine ⟨hiff, ?_, ?_⟩
  · rintro hp hop ⟨a, ha⟩
    exact hiff.mpr (answered_of_send hp hop ha)
  · intro pre code reached post hp hin hpre
    have hf : firstWriteAnswer s.inputs = some (.err code reached, post) := by
      rw [hin, firstWriteAnswer_append hpre]
      rfl
    exact hiff.mpr (answered_of_write_error hp hf)

end Sys2Proof.Machine
end

section
/-! PROOFS. Faults and outcomes: what the FAULT record keeps, how long an outcome lasts, and that a completed command
shows one. -/

namespace Sys2Proof.Machine

/-! ## The two model faults -/

/-- The accesses that R201 admits: 4 wide, aligned, inside the window. -/
theorem admitted_iff (off n : Nat) : admitted off n = true ↔ n = 4 ∧ off % 4 = 0 ∧ off < 0x80 := by
  simp only [admitted, Bool.and_eq_true, beq_iff_eq, decide_eq_true_eq, and_assoc]
  rfl

/-- Settles O26: the check for F_ACCESS is the first of R630, before BUSY is looked at. -/
theorem inadmissibleAccessRecordsFAccess : Obligations.InadmissibleAccessRecordsFAccess := by
  intro s rest off n v h
  have ha : ¬admitted off n = true := by
    rw [admitted_iff]
    omega
  refine ⟨fun hin => ?_, fun hin => ?_⟩ <;> rw [step_of_inputs hin] <;> exact if_neg ha

/-- Settles O27, which is the BUSY case of an admitted write. -/
theorem writeWhileBusyRecordsFBusyWrite : Obligations.WriteWhileBusyRecordsFBusyWrite :=
  fun _ _ _ _ hb h4 hlt hin => step_of_write_busy h4 hlt hb hin

/-! ## The FAULT record -/

theorem issueCommand_faults {v : Word} {s u : State} (hu : issueCommand v s = .next u) : u.faults = s.faults := by
  rcases issueCommand_cases v s with ⟨i, -, hi⟩ | ⟨opc, -, hr⟩
  · obtain ⟨-, -, -, -, -, -, -, hf⟩ := exec_keeps_registers (hi.symm.trans hu)
    exact hf
  · obtain rfl : reservedCommand opc s = u := by simpa [hu] using hr.symm
    rfl

theorem txAnswer_faults (a : WriteAnswer) (s : State) : (txAnswer a s).faults = s.faults := by
  cases a with
  | ok =>
    simp only [txAnswer]
    split <;> rfl
  | err code reached => rfl

theorem rxAnswer_faults (a : ReadAnswer) (s : State) : (rxAnswer a s).faults = s.faults := by
  cases a with
  | ok k buf =>
    by_cases hk : k.val = Config.readSize
    · rw [rxAnswer_full hk]
      rfl
    · rw [rxAnswer_short hk]
      rfl
  | err code => rfl

/-- Of the steps that are no reset, only a model fault touches the FAULT record, and it does nothing else (R620). -/
theorem StepCase.faults {i : Input} {s t : State} (hr : i.isReset = false) (hs : StepCase i s t) :
    t.faults = s.faults ∨ ∃ f, t = raiseFault f s := by
  cases hs with
  | fault f hi ht => exact .inr ⟨f, ht⟩
  | host hi ht =>
    obtain ⟨hpc, obs, rfl⟩ := ht
    exact .inl rfl
  | store r v hpc hi hb hr ht =>
    obtain ⟨a, p, k, st, rx, c, d, hw⟩ := writeReg_eq r v s
    rw [ht, hw]
    exact .inl rfl
  | command v u hpc hi hb hu ht => exact ht ▸ .inl (issueCommand_faults (u := u) hu)
  | tx a hi hp ht => exact ht ▸ .inl (txAnswer_faults a s)
  | waited us hi hp hu ht => exact ht ▸ .inl rfl
  | rx a hi hp ht => exact ht ▸ .inl (rxAnswer_faults a s)
  | disabled hi hr ht => exact ht ▸ .inl rfl
  | reset reached hi ht => simp [hi, Input.isReset] at hr

/-- Settles O51: `StepCase.faults`, with the input at the head of those that wait. -/
theorem faultRecordIsSticky : Obligations.FaultRecordIsSticky := by
  intro s t hr hst
  rcases step_cases hst with ⟨-, rfl⟩ | ⟨i, rest, hin, hs⟩
  · exact .inl rfl
  · have hi : i.isReset = false := by simpa [State.resetsNext, hin] using hr
    rcases hs.faults hi with hf | ⟨f, rfl⟩
    · exact .inl hf
    · exact .inr ⟨f, by rw [hin]; rfl⟩

/-- A step takes one input, if one waits. -/
theorem inputs_of_step {s t : State} (hst : step s = .next t) : t.inputs = s.inputs.tail := by
  rcases step_cases hst with ⟨hin, rfl⟩ | ⟨i, rest, hin, hs⟩
  · rw [hin, List.tail_nil]
  · rw [hs.inputs, hin, List.tail_cons]

/-- The next step is no reset if no input is one. -/
theorem resetsNext_of_no_reset {s : State} (hno : s.inputs.all (fun i => !i.isReset) = true) :
    s.resetsNext = false := by
  cases hin : s.inputs with
  | nil => simp [State.resetsNext, hin]
  | cons i rest =>
    obtain ⟨hi, -⟩ : i.isReset = false ∧ rest.all (fun i => !i.isReset) = true := by
      simpa only [hin, List.all_cons, Bool.and_eq_true, Bool.not_eq_true'] using hno
    simpa [State.resetsNext, hin] using hi

/-- A non-empty FAULT record stays so until a reset (R620). -/
theorem faults_ne_nil_of_step {s t : State} (hf : s.faults ≠ []) (hr : s.resetsNext = false)
    (hst : step s = .next t) : t.faults ≠ [] := by
  rcases faultRecordIsSticky s t hr hst with h | ⟨f, rfl⟩
  · exact h ▸ hf
  · exact List.append_ne_nil_of_left_ne_nil hf [f]

theorem faults_ne_nil_of_runSteps {k : Nat} {s t : State} (hf : s.faults ≠ [])
    (hno : s.inputs.all (fun i => !i.isReset) = true) (hrun : runSteps k s = .next t) : t.faults ≠ [] := by
  induction k generalizing s with
  | zero =>
    obtain rfl : s = t := by simpa using hrun
    exact hf
  | succ k ih =>
    obtain ⟨u, hst⟩ := everyStepAnswersANextState s
    rw [runSteps_succ k hst] at hrun
    refine ih (faults_ne_nil_of_step hf (resetsNext_of_no_reset hno) hst) ?_ hrun
    rw [List.all_eq_true] at hno ⊢
    intro i hi
    exact hno i (List.mem_of_mem_tail (inputs_of_step hst ▸ hi))

/-- Settles O52: the record is not empty, which a final state's is. -/
theorem faultedRunIsNeverFinal : Obligations.FaultedRunIsNeverFinal := fun _ _ _ hf hno hrun =>
  have hne := faults_ne_nil_of_runSteps hf hno hrun
  ⟨hne, fun hfinal => hne hfinal.2⟩

/-! ## How long an outcome lasts -/

theorem sameOutcome_refl (s : State) : SameOutcome s s := ⟨rfl, rfl, rfl, rfl, rfl, rfl⟩

/-- Of the steps that are no reset, only those of a transaction and the issue of a command touch the outcome, and in a
transaction DONE = 0 (R105, R641). -/
theorem StepCase.outcome {i : Input} {s t : State} (h : Inv s) (hd : s.done = true) (hr : i.isReset = false)
    (hs : StepCase i s t) :
    SameOutcome s t ∨ (s.busy = false ∧ ∃ w u, issueCommand w s = .next u ∧ t = { u with hpc := t.hpc }) := by
  have idle (hp : s.phase ≠ .idle) : False :=
    Bool.false_ne_true ((h.transaction hp).not_done.symm.trans hd)
  cases hs with
  | fault f hi ht => exact ht ▸ .inl (sameOutcome_refl s)
  | host hi ht =>
    obtain ⟨hpc, obs, rfl⟩ := ht
    exact .inl (sameOutcome_refl s)
  | store r v hpc hi hb hr ht =>
    obtain ⟨a, p, k, st, rx, c, d, hw⟩ := writeReg_eq r v s
    rw [ht, hw]
    exact .inl (sameOutcome_refl s)
  | command v u hpc hi hb hu ht => exact ht ▸ .inr ⟨hb, v, u, hu, rfl⟩
  | tx a hi hp ht => exact (idle (by simp [hp])).elim
  | waited us hi hp hu ht => exact (idle (by simp [hp])).elim
  | rx a hi hp ht => exact (idle (by simp [hp])).elim
  | disabled hi hr ht => exact ht ▸ .inl (sameOutcome_refl t)
  | reset reached hi ht => simp [hi, Input.isReset] at hr

/-- Settles O55: `StepCase.outcome`, with the input at the head of those that wait. -/
theorem outcomeStaysUntilTheNextCommand : Obligations.OutcomeStaysUntilTheNextCommand := by
  intro s t h hr hd hst
  rcases step_cases hst with ⟨-, rfl⟩ | ⟨i, rest, hin, hs⟩
  · exact .inl (sameOutcome_refl t)
  · have hi : i.isReset = false := by simpa [State.resetsNext, hin] using hr
    rw [hin]
    exact hs.outcome (h.outside rest _ _ _) hd hi

/-! ## One cause for a completed command -/

/-- The cause that CMDERR and IOERR_INFO.SRC name (R614). -/
def shownCause (s : State) : Cause :=
  if s.cmderr then .cmderr
  else
    match s.ioSrc with
    | .none => .ok
    | .write => .ioerrWrite
    | .read => .ioerrRead
    | .short => .ioerrShort

/-- A state shows no cause but that one. -/
theorem eq_shownCause_of_shows {c : Cause} {s : State} (h : c.shows s) : c = shownCause s := by
  cases c <;>
  · obtain ⟨-, hc, hsrc⟩ := h
    simp [shownCause, hc, hsrc]

/-- By the invariant a completed command shows that cause, and its opcode can have it (R105, R611, R613). -/
theorem OutcomeInv.shows_shownCause {s : State} (h : OutcomeInv s) (hd : s.done = true) :
    (shownCause s).shows s ∧ (shownCause s).opcodes s.lastop := by
  cases hc : s.cmderr with
  | true =>
    have hio : s.ioerr = false := Bool.eq_false_iff.mpr fun hio => h.not_both ⟨hio, hc⟩
    rw [shownCause, if_pos hc]
    exact ⟨⟨hio, hc, h.src_iff.mpr hio⟩, h.cmderr_op hc⟩
  | false =>
    have hio (hne : s.ioSrc ≠ .none) : s.ioerr = true := by simpa [h.src_iff] using hne
    rw [shownCause, if_neg (by simp [hc])]
    cases hsrc : s.ioSrc with
    | none => exact ⟨⟨h.src_iff.mp hsrc, hc, hsrc⟩, h.done_op hd hc⟩
    | write => exact ⟨⟨hio (by simp [hsrc]), hc, hsrc⟩, h.write_op hsrc⟩
    | read => exact ⟨⟨hio (by simp [hsrc]), hc, hsrc⟩, h.read_op (.inl hsrc)⟩
    | short => exact ⟨⟨hio (by simp [hsrc]), hc, hsrc⟩, h.read_op (.inr hsrc)⟩

/-- Settles O57: the one cause is the one that CMDERR and SRC name. -/
theorem completedCommandHasOneCause : Obligations.CompletedCommandHasOneCause := fun s h hd =>
  ⟨⟨shownCause s, h.outcome.shows_shownCause hd⟩,
    fun _ _ hc hc' => (eq_shownCause_of_shows hc).trans (eq_shownCause_of_shows hc').symm⟩

end Sys2Proof.Machine
end

section
/-! PROOFS. Reset and hazards: the host has no hold on a transaction, and reset leaves of the state before it only what
the agents outside the block hold. -/

namespace Sys2Proof.Machine

/-! ## The host while BUSY = 1 -/

/-- A step of the host is no reset and no answer of the channel (R12). -/
theorem not_isReset_not_isAnswer_of_isHost {i : Input} (hi : i.isHost = true) :
    i.isReset = false ∧ i.isAnswer = false := by
  cases i with
  | host a => exact ⟨rfl, rfl⟩
  | hostStmt => exact ⟨rfl, rfl⟩
  | _ => cases hi

/-- No transaction awaits a step of the host: its phases end by the channel's answers and by time (R458, R462, R463). -/
theorem not_awaits_of_isHost {s : State} {i : Input} (hi : i.isHost = true) : ¬s.Awaits i := by
  obtain ⟨-, ha⟩ := not_isReset_not_isAnswer_of_isHost hi
  cases hp : s.phase with
  | idle => simp [State.Awaits, hp]
  | tx => exact not_awaits_of_no_answer (.inl hp) ha
  | wait =>
    rw [awaits_wait hp]
    rintro ⟨us, rfl, -⟩
    cases hi
  | rx => exact not_awaits_of_no_answer (.inr hp) ha

/-- Settles O56: a step of the host is no reset, and no transaction awaits it. -/
theorem hostChangesNothingWhileBusy : Obligations.HostChangesNothingWhileBusy := by
  intro s t i rest hb hi hin hst
  obtain ⟨hr, -⟩ := not_isReset_not_isAnswer_of_isHost hi
  obtain ⟨faults, obs, hpc, hs⟩ := step_of_not_awaits hb hin hr (not_awaits_of_isHost hi)
  obtain rfl : t = { s with inputs := rest, faults := faults, obs := obs, hpc := hpc } := by simpa [hst] using hs
  rfl

/-! ## The reset values -/

/-- The launch state is the reset of itself: the agents outside hold nothing at launch. -/
theorem resetBlock_reset : resetBlock State.reset = State.reset := rfl

theorem get_zero (i : Fin 5) : Frame.zero.get i = 0 := by
  fin_cases i <;> rfl

/-- The registers made of several fields read 0 in the launch state (R105, R108, R113, R115). -/
theorem flagWords_reset : statusWord State.reset = 0 ∧ pktFlagsWord State.reset = 0 ∧ dFlagsWord State.reset = 0 ∧
    ioerrInfoWord State.reset = 0 := by decide

/-- After a reset every register reads 0, but for REPLY_DELAY (R700). -/
theorem readReg_resetBlock (r : Reg) (s : State) :
    readReg r (resetBlock s) = if r = .replyDelay then 0x000F4240 else 0 := by
  obtain ⟨hstatus, hpkt, hd, hio⟩ := flagWords_reset
  cases r with
  | status => exact hstatus
  | pktFlags => exact hpkt
  | dFlags => exact hd
  | ioerrInfo => exact hio
  | txbuf i | rxbuf i => exact congrArg (BitVec.setWidth 32) (get_zero i)
  | _ => rfl

/-- A reset, as a step: in TX the bytes that reached the wire stay there, and the block is reset (R700, R701). -/
theorem step_of_reset {s : State} {reached : Fin 6} {rest : List Input} (hin : s.inputs = .reset reached :: rest) :
    step s = .next (resetBlock
      { s with inputs := rest, wire := s.wire ++ if s.phase = .tx then s.txbuf.bytes.take reached.val else [] }) := by
  rw [step_of_inputs hin]
  by_cases hp : s.phase = .tx
  · simp [runInput, resetStep, sendPrefix, hp]
  · simp [runInput, resetStep, hp]

/-- Settles O49: the state after a reset and the launch state are both resets of a state. -/
theorem resetSetsEveryRegister : Obligations.ResetSetsEveryRegister := by
  intro s reached rest hin
  refine ⟨_, step_of_reset hin, fun x hx => ?_⟩
  obtain ⟨u, rfl⟩ : ∃ u, x = resetBlock u :=
    hx.elim (fun h => ⟨_, h⟩) (fun h => ⟨_, h.trans resetBlock_reset.symm⟩)
  exact ⟨fun r => readReg_resetBlock r u, rfl, rfl, rfl, rfl, rfl⟩

/-- Settles O59: the launch state is the reset of itself. -/
theorem resetMeetsTheInvariant : Obligations.ResetMeetsTheInvariant := inv_resetBlock State.reset

/-! ## What is left of a transaction -/

/-- An answer of the channel in IDLE answers no request, and is ignored (R701). -/
theorem step_of_answer_idle {s : State} {i : Input} {rest : List Input} (hp : s.phase = .idle)
    (hi : (∃ a, i = .writeAnswered a) ∨ (∃ a, i = .readAnswered a)) (hin : s.inputs = i :: rest) :
    step s = .next { s with inputs := rest } := by
  obtain ⟨htx, -, hrx⟩ := disabledSequencerStepsChangeNothing s rest
  rcases hi with ⟨a, rfl⟩ | ⟨a, rfl⟩
  · exact htx a hin (by simp [hp])
  · exact hrx a hin (by simp [hp])

/-- Settles O50: the step of the reset, and then an answer that finds the sequencer in IDLE. -/
theorem resetAbandonsATransaction : Obligations.ResetAbandonsATransaction := by
  intro s reached i rest hin
  have hst := step_of_reset hin
  refine ⟨hst, fun hi => ?_⟩
  rw [runSteps_succ 1 hst, runSteps_succ 0 (step_of_answer_idle rfl hi rfl), hst]
  rfl

end Sys2Proof.Machine
end
